-- ==== Sys2Proof/Word.lean ====
section
/-! DEFINITION. The word types of the operation stream and of the external CPU bus. -/

namespace Sys2Proof

/-- One operation word (spec R22). -/
abbrev Word := BitVec 32

/-- One byte of data of the CPU bus (spec R16). -/
abbrev Byte := BitVec 8

/-- One address of the CPU bus (spec R16). -/
abbrev Addr := BitVec 16

end Sys2Proof
end

