-- ==== Sys2Proof/Syntax.lean ====
section
/-! DEFINITION. The operations of the block: one constructor per row of spec/opcode_table.json (spec R22, R23, R28). -/

namespace Sys2Proof

/-- The five channel instances (spec R1). -/
inductive Channel where
  | p1 | p2 | tri | noi | dmc
  deriving DecidableEq, Repr

/-- Every operation the driver can apply. `v` is the data byte of a register write; `b` is the enable value of an `EN` word, true
for 1 (spec R22). An operand has exactly the values the encoding admits. -/
inductive Instr where
  /-- `WR $4000, #v` (spec R61). -/
  | wr4000 (v : Byte)
  /-- `WR $4001, #v` (spec R62). -/
  | wr4001 (v : Byte)
  /-- `WR $4002, #v` (spec R63). -/
  | wr4002 (v : Byte)
  /-- `WR $4003, #v` (spec R64). -/
  | wr4003 (v : Byte)
  /-- `WR $4004, #v` (spec R61). -/
  | wr4004 (v : Byte)
  /-- `WR $4005, #v` (spec R62). -/
  | wr4005 (v : Byte)
  /-- `WR $4006, #v` (spec R63). -/
  | wr4006 (v : Byte)
  /-- `WR $4007, #v` (spec R64). -/
  | wr4007 (v : Byte)
  /-- `WR $4008, #v` (spec R72). -/
  | wr4008 (v : Byte)
  /-- `WR $4009, #v` (spec R73). -/
  | wr4009 (v : Byte)
  /-- `WR $400A, #v` (spec R74). -/
  | wr400A (v : Byte)
  /-- `WR $400B, #v` (spec R75). -/
  | wr400B (v : Byte)
  /-- `WR $400C, #v` (spec R83). -/
  | wr400C (v : Byte)
  /-- `WR $400D, #v` (spec R84). -/
  | wr400D (v : Byte)
  /-- `WR $400E, #v` (spec R85). -/
  | wr400E (v : Byte)
  /-- `WR $400F, #v` (spec R86). -/
  | wr400F (v : Byte)
  /-- `WR $4010, #v` (spec R93). -/
  | wr4010 (v : Byte)
  /-- `WR $4011, #v` (spec R94). -/
  | wr4011 (v : Byte)
  /-- `WR $4012, #v` (spec R95). -/
  | wr4012 (v : Byte)
  /-- `WR $4013, #v` (spec R96). -/
  | wr4013 (v : Byte)
  /-- `STEP P1` (spec R65). -/
  | stepP1
  /-- `STEP P2` (spec R65). -/
  | stepP2
  /-- `STEP TRI` (spec R76). -/
  | stepTri
  /-- `STEP NOI` (spec R87). -/
  | stepNoi
  /-- `STEP DMC` (spec R99). -/
  | stepDmc
  /-- `QF P1` (spec R66). -/
  | qfP1
  /-- `QF P2` (spec R66). -/
  | qfP2
  /-- `QF TRI` (spec R77). -/
  | qfTri
  /-- `QF NOI` (spec R88). -/
  | qfNoi
  /-- `QF DMC` (spec R100). -/
  | qfDmc
  /-- `HF P1` (spec R67). -/
  | hfP1
  /-- `HF P2` (spec R67). -/
  | hfP2
  /-- `HF TRI` (spec R78). -/
  | hfTri
  /-- `HF NOI` (spec R89). -/
  | hfNoi
  /-- `HF DMC` (spec R101). -/
  | hfDmc
  /-- `RST P1` (spec R68). -/
  | rstP1
  /-- `RST P2` (spec R68). -/
  | rstP2
  /-- `RST TRI` (spec R79). -/
  | rstTri
  /-- `RST NOI` (spec R90). -/
  | rstNoi
  /-- `RST DMC` (spec R102). -/
  | rstDmc
  /-- `EN P1, b` (spec R69). -/
  | enP1 (b : Bool)
  /-- `EN P2, b` (spec R69). -/
  | enP2 (b : Bool)
  /-- `EN TRI, b` (spec R80). -/
  | enTri (b : Bool)
  /-- `EN NOI, b` (spec R91). -/
  | enNoi (b : Bool)
  /-- `ACK DMC` (spec R103). -/
  | ackDmc
  /-- `OUT P1` (spec R107). -/
  | outP1
  /-- `OUT P2` (spec R107). -/
  | outP2
  /-- `OUT TRI` (spec R107). -/
  | outTri
  /-- `OUT NOI` (spec R107). -/
  | outNoi
  /-- `OUT DMC` (spec R107). -/
  | outDmc
  /-- `LEN P1` (spec R108). -/
  | lenP1
  /-- `LEN P2` (spec R108). -/
  | lenP2
  /-- `LEN TRI` (spec R108). -/
  | lenTri
  /-- `LEN NOI` (spec R108). -/
  | lenNoi
  /-- `ENQ P1` (spec R108). -/
  | enqP1
  /-- `ENQ P2` (spec R108). -/
  | enqP2
  /-- `ENQ TRI` (spec R108). -/
  | enqTri
  /-- `ENQ NOI` (spec R108). -/
  | enqNoi
  /-- `VOL P1` (spec R109). -/
  | volP1
  /-- `VOL P2` (spec R109). -/
  | volP2
  /-- `VOL NOI` (spec R109). -/
  | volNoi
  /-- `IRQ DMC` (spec R110). -/
  | irqDmc
  /-- `MIX` (spec R111). -/
  | mix
  deriving DecidableEq, Repr

end Sys2Proof
end

