-- ==== Sys2Proof/WellFormed.lean ====
section
/-! DEFINITION. Which operation words are legal: the match and mask of every row of spec/opcode_table.json (spec R22, R29).
A term of `Instr` is well formed by its type alone (a byte operand takes all 256 values, an enable operand is one bit),
so the check is on the word: `wordLegal` refuses every word that is no row's. -/

namespace Sys2Proof

/-- A row of the opcode table: a word is the row's when its bits under `mask` are `pattern` (spec R22). -/
structure OpcodeRow where
  mnemonic : String
  pattern : Word
  mask : Word
  deriving DecidableEq, Repr

/-- The word matches the row: `match` equals the word masked by `mask` (spec R22). -/
def OpcodeRow.matchesWord (r : OpcodeRow) (w : Word) : Bool := w &&& r.mask == r.pattern

/-- The rows of the register writes (spec R23). -/
def registerRows : List OpcodeRow := [
  ⟨"WR__4000___v", 0x00400000, 0xFFFFFF00⟩,
  ⟨"WR__4001___v", 0x00400100, 0xFFFFFF00⟩,
  ⟨"WR__4002___v", 0x00400200, 0xFFFFFF00⟩,
  ⟨"WR__4003___v", 0x00400300, 0xFFFFFF00⟩,
  ⟨"WR__4004___v", 0x00400400, 0xFFFFFF00⟩,
  ⟨"WR__4005___v", 0x00400500, 0xFFFFFF00⟩,
  ⟨"WR__4006___v", 0x00400600, 0xFFFFFF00⟩,
  ⟨"WR__4007___v", 0x00400700, 0xFFFFFF00⟩,
  ⟨"WR__4008___v", 0x00400800, 0xFFFFFF00⟩,
  ⟨"WR__4009___v", 0x00400900, 0xFFFFFF00⟩,
  ⟨"WR__400A___v", 0x00400A00, 0xFFFFFF00⟩,
  ⟨"WR__400B___v", 0x00400B00, 0xFFFFFF00⟩,
  ⟨"WR__400C___v", 0x00400C00, 0xFFFFFF00⟩,
  ⟨"WR__400D___v", 0x00400D00, 0xFFFFFF00⟩,
  ⟨"WR__400E___v", 0x00400E00, 0xFFFFFF00⟩,
  ⟨"WR__400F___v", 0x00400F00, 0xFFFFFF00⟩,
  ⟨"WR__4010___v", 0x00401000, 0xFFFFFF00⟩,
  ⟨"WR__4011___v", 0x00401100, 0xFFFFFF00⟩,
  ⟨"WR__4012___v", 0x00401200, 0xFFFFFF00⟩,
  ⟨"WR__4013___v", 0x00401300, 0xFFFFFF00⟩]

/-- The rows of the hooks STEP, QF, HF and RST (spec R28). -/
def hookRows : List OpcodeRow := [
  ⟨"STEP_P1", 0x10400000, 0xFFFFFFFF⟩,
  ⟨"STEP_P2", 0x10400400, 0xFFFFFFFF⟩,
  ⟨"STEP_TRI", 0x10400800, 0xFFFFFFFF⟩,
  ⟨"STEP_NOI", 0x10400C00, 0xFFFFFFFF⟩,
  ⟨"STEP_DMC", 0x10401000, 0xFFFFFFFF⟩,
  ⟨"QF_P1", 0x20400000, 0xFFFFFFFF⟩,
  ⟨"QF_P2", 0x20400400, 0xFFFFFFFF⟩,
  ⟨"QF_TRI", 0x20400800, 0xFFFFFFFF⟩,
  ⟨"QF_NOI", 0x20400C00, 0xFFFFFFFF⟩,
  ⟨"QF_DMC", 0x20401000, 0xFFFFFFFF⟩,
  ⟨"HF_P1", 0x30400000, 0xFFFFFFFF⟩,
  ⟨"HF_P2", 0x30400400, 0xFFFFFFFF⟩,
  ⟨"HF_TRI", 0x30400800, 0xFFFFFFFF⟩,
  ⟨"HF_NOI", 0x30400C00, 0xFFFFFFFF⟩,
  ⟨"HF_DMC", 0x30401000, 0xFFFFFFFF⟩,
  ⟨"RST_P1", 0x40400000, 0xFFFFFFFF⟩,
  ⟨"RST_P2", 0x40400400, 0xFFFFFFFF⟩,
  ⟨"RST_TRI", 0x40400800, 0xFFFFFFFF⟩,
  ⟨"RST_NOI", 0x40400C00, 0xFFFFFFFF⟩,
  ⟨"RST_DMC", 0x40401000, 0xFFFFFFFF⟩]

/-- The rows of the enable and acknowledge words (spec R28). -/
def enableRows : List OpcodeRow := [
  ⟨"EN_P1__b", 0x50400000, 0xFFFFFFFE⟩,
  ⟨"EN_P2__b", 0x50400400, 0xFFFFFFFE⟩,
  ⟨"EN_TRI__b", 0x50400800, 0xFFFFFFFE⟩,
  ⟨"EN_NOI__b", 0x50400C00, 0xFFFFFFFE⟩,
  ⟨"ACK_DMC", 0x60401000, 0xFFFFFFFF⟩]

/-- The rows of the observation words and MIX (spec R28). -/
def observeRows : List OpcodeRow := [
  ⟨"OUT_P1", 0x70400000, 0xFFFFFFFF⟩,
  ⟨"OUT_P2", 0x70400400, 0xFFFFFFFF⟩,
  ⟨"OUT_TRI", 0x70400800, 0xFFFFFFFF⟩,
  ⟨"OUT_NOI", 0x70400C00, 0xFFFFFFFF⟩,
  ⟨"OUT_DMC", 0x70401000, 0xFFFFFFFF⟩,
  ⟨"LEN_P1", 0x70400001, 0xFFFFFFFF⟩,
  ⟨"LEN_P2", 0x70400401, 0xFFFFFFFF⟩,
  ⟨"LEN_TRI", 0x70400801, 0xFFFFFFFF⟩,
  ⟨"LEN_NOI", 0x70400C01, 0xFFFFFFFF⟩,
  ⟨"ENQ_P1", 0x70400002, 0xFFFFFFFF⟩,
  ⟨"ENQ_P2", 0x70400402, 0xFFFFFFFF⟩,
  ⟨"ENQ_TRI", 0x70400802, 0xFFFFFFFF⟩,
  ⟨"ENQ_NOI", 0x70400C02, 0xFFFFFFFF⟩,
  ⟨"VOL_P1", 0x70400003, 0xFFFFFFFF⟩,
  ⟨"VOL_P2", 0x70400403, 0xFFFFFFFF⟩,
  ⟨"VOL_NOI", 0x70400C03, 0xFFFFFFFF⟩,
  ⟨"IRQ_DMC", 0x70401004, 0xFFFFFFFF⟩,
  ⟨"MIX", 0x80000000, 0xFFFFFFFF⟩]

/-- The whole opcode table. -/
def opcodeTable : List OpcodeRow := registerRows ++ hookRows ++ enableRows ++ observeRows

/-- A word is legal exactly when it matches one row of the opcode table (spec R22, R29). -/
def wordLegal (w : Word) : Bool := opcodeTable.any (fun r => r.matchesWord w)

end Sys2Proof
end

