-- ==== Sys2Proof/Decode.lean ====
section
/-! DEFINITION. Decoding an operation word (spec R22, R23, R28, R29), and the encoder written from the same encoding. -/

namespace Sys2Proof

/-- Why a word is no operation: it matches no row of the table (spec R29, R114). -/
inductive Illegal where
  | illegalWord (word : Word)
  deriving DecidableEq, Repr

/-- The field `kind`, bits 31:28 (spec R22). -/
def wordKind (w : Word) : BitVec 4 := w.extractLsb' 28 4
/-- The field `zero`, bits 27:24 (spec R22). -/
def wordZero (w : Word) : BitVec 4 := w.extractLsb' 24 4
/-- The field `addr`, bits 23:8 (spec R22). -/
def wordAddr (w : Word) : Addr := w.extractLsb' 8 16
/-- The field `data`, bits 7:0 (spec R22). -/
def wordData (w : Word) : Byte := w.extractLsb' 0 8

/-- The base address that names a channel in a hook or observation word (spec R22). -/
def channelBase : Channel → Addr
  | .p1 => 0x4000
  | .p2 => 0x4004
  | .tri => 0x4008
  | .noi => 0x400C
  | .dmc => 0x4010

/-- The channel whose base address `a` is, if it is one (spec R22, R28). -/
def channelOfBase (a : Addr) : Option Channel :=
  if a = channelBase .p1 then some .p1
  else if a = channelBase .p2 then some .p2
  else if a = channelBase .tri then some .tri
  else if a = channelBase .noi then some .noi
  else if a = channelBase .dmc then some .dmc
  else none

/-- The register map: which register write a WRITE word's address selects (spec R23). -/
def decodeWrite (a : Addr) (v : Byte) : Option Instr :=
  match a.toNat with
  | 0x4000 => some (.wr4000 v)
  | 0x4001 => some (.wr4001 v)
  | 0x4002 => some (.wr4002 v)
  | 0x4003 => some (.wr4003 v)
  | 0x4004 => some (.wr4004 v)
  | 0x4005 => some (.wr4005 v)
  | 0x4006 => some (.wr4006 v)
  | 0x4007 => some (.wr4007 v)
  | 0x4008 => some (.wr4008 v)
  | 0x4009 => some (.wr4009 v)
  | 0x400A => some (.wr400A v)
  | 0x400B => some (.wr400B v)
  | 0x400C => some (.wr400C v)
  | 0x400D => some (.wr400D v)
  | 0x400E => some (.wr400E v)
  | 0x400F => some (.wr400F v)
  | 0x4010 => some (.wr4010 v)
  | 0x4011 => some (.wr4011 v)
  | 0x4012 => some (.wr4012 v)
  | 0x4013 => some (.wr4013 v)
  | _ => none

/-- `STEP ch` (spec R28, kind 1). -/
def decodeStep : Channel → Option Instr
  | .p1 => some .stepP1
  | .p2 => some .stepP2
  | .tri => some .stepTri
  | .noi => some .stepNoi
  | .dmc => some .stepDmc

/-- `QF ch` (spec R28, kind 2). -/
def decodeQuarter : Channel → Option Instr
  | .p1 => some .qfP1
  | .p2 => some .qfP2
  | .tri => some .qfTri
  | .noi => some .qfNoi
  | .dmc => some .qfDmc

/-- `HF ch` (spec R28, kind 3). -/
def decodeHalf : Channel → Option Instr
  | .p1 => some .hfP1
  | .p2 => some .hfP2
  | .tri => some .hfTri
  | .noi => some .hfNoi
  | .dmc => some .hfDmc

/-- `RST ch` (spec R28, kind 4). -/
def decodeReset : Channel → Option Instr
  | .p1 => some .rstP1
  | .p2 => some .rstP2
  | .tri => some .rstTri
  | .noi => some .rstNoi
  | .dmc => some .rstDmc

/-- `EN ch, b` (spec R28, kind 5): the DMC has no enable word. -/
def decodeEnable (b : Bool) : Channel → Option Instr
  | .p1 => some (.enP1 b)
  | .p2 => some (.enP2 b)
  | .tri => some (.enTri b)
  | .noi => some (.enNoi b)
  | .dmc => none

/-- `ACK DMC` (spec R28, kind 6). -/
def decodeAck : Channel → Option Instr
  | .p1 => none
  | .p2 => none
  | .tri => none
  | .noi => none
  | .dmc => some .ackDmc

/-- `OUT ch` (spec R28, kind 7, selector 0). -/
def decodeOut : Channel → Option Instr
  | .p1 => some .outP1
  | .p2 => some .outP2
  | .tri => some .outTri
  | .noi => some .outNoi
  | .dmc => some .outDmc

/-- `LEN ch` (spec R28, kind 7, selector 1). -/
def decodeLen : Channel → Option Instr
  | .p1 => some .lenP1
  | .p2 => some .lenP2
  | .tri => some .lenTri
  | .noi => some .lenNoi
  | .dmc => none

/-- `ENQ ch` (spec R28, kind 7, selector 2). -/
def decodeEnq : Channel → Option Instr
  | .p1 => some .enqP1
  | .p2 => some .enqP2
  | .tri => some .enqTri
  | .noi => some .enqNoi
  | .dmc => none

/-- `VOL ch` (spec R28, kind 7, selector 3): TRI and the DMC have no envelope. -/
def decodeVol : Channel → Option Instr
  | .p1 => some .volP1
  | .p2 => some .volP2
  | .tri => none
  | .noi => some .volNoi
  | .dmc => none

/-- `IRQ DMC` (spec R28, kind 7, selector 4). -/
def decodeIrq : Channel → Option Instr
  | .p1 => none
  | .p2 => none
  | .tri => none
  | .noi => none
  | .dmc => some .irqDmc

/-- An observation word, by the selector in its data byte (spec R28, kind 7). -/
def decodeObserve (selector : Byte) (c : Channel) : Option Instr :=
  match selector.toNat with
  | 0 => decodeOut c
  | 1 => decodeLen c
  | 2 => decodeEnq c
  | 3 => decodeVol c
  | 4 => decodeIrq c
  | _ => none

/-- A hook word: its data byte is 0 and its address a channel's base (spec R22, R28). -/
def decodeHook (f : Channel → Option Instr) (a : Addr) (v : Byte) : Option Instr :=
  if v = 0 then (channelOfBase a).bind f else none

/-- The operation of a word whose field `zero` is 0, by its kind (spec R22, R28). -/
def decodeKind (kind : BitVec 4) (a : Addr) (v : Byte) : Option Instr :=
  match kind.toNat with
  | 0 => decodeWrite a v
  | 1 => decodeHook decodeStep a v
  | 2 => decodeHook decodeQuarter a v
  | 3 => decodeHook decodeHalf a v
  | 4 => decodeHook decodeReset a v
  | 5 =>
    if v = 0 then (channelOfBase a).bind (decodeEnable false)
    else if v = 1 then (channelOfBase a).bind (decodeEnable true)
    else none
  | 6 => decodeHook decodeAck a v
  | 7 => (channelOfBase a).bind (decodeObserve v)
  | 8 => if a = 0 ∧ v = 0 then some .mix else none
  | _ => none

/-- Decode one operation word. A word that is no operation is refused by name, with the word (spec R29, R114). -/
def decode (w : Word) : Except Illegal Instr :=
  if wordZero w = 0 then
    match decodeKind (wordKind w) (wordAddr w) (wordData w) with
    | some i => .ok i
    | none => .error (.illegalWord w)
  else .error (.illegalWord w)

/-- A word made of its fields, with `zero` 0 (spec R22). -/
def packWord (kind : BitVec 4) (a : Addr) (v : Byte) : Word := kind ++ 0#4 ++ a ++ v

/-- The data byte of an enable word: bit 0 is the enable value, bits 7:1 are 0 (spec R22). -/
def enableData (b : Bool) : Byte := if b then 1 else 0

/-- The word of an operation (spec R22, R23, R28). -/
def encode : Instr → Word
  | .wr4000 v => packWord 0 0x4000 v
  | .wr4001 v => packWord 0 0x4001 v
  | .wr4002 v => packWord 0 0x4002 v
  | .wr4003 v => packWord 0 0x4003 v
  | .wr4004 v => packWord 0 0x4004 v
  | .wr4005 v => packWord 0 0x4005 v
  | .wr4006 v => packWord 0 0x4006 v
  | .wr4007 v => packWord 0 0x4007 v
  | .wr4008 v => packWord 0 0x4008 v
  | .wr4009 v => packWord 0 0x4009 v
  | .wr400A v => packWord 0 0x400A v
  | .wr400B v => packWord 0 0x400B v
  | .wr400C v => packWord 0 0x400C v
  | .wr400D v => packWord 0 0x400D v
  | .wr400E v => packWord 0 0x400E v
  | .wr400F v => packWord 0 0x400F v
  | .wr4010 v => packWord 0 0x4010 v
  | .wr4011 v => packWord 0 0x4011 v
  | .wr4012 v => packWord 0 0x4012 v
  | .wr4013 v => packWord 0 0x4013 v
  | .stepP1 => packWord 1 (channelBase .p1) 0
  | .stepP2 => packWord 1 (channelBase .p2) 0
  | .stepTri => packWord 1 (channelBase .tri) 0
  | .stepNoi => packWord 1 (channelBase .noi) 0
  | .stepDmc => packWord 1 (channelBase .dmc) 0
  | .qfP1 => packWord 2 (channelBase .p1) 0
  | .qfP2 => packWord 2 (channelBase .p2) 0
  | .qfTri => packWord 2 (channelBase .tri) 0
  | .qfNoi => packWord 2 (channelBase .noi) 0
  | .qfDmc => packWord 2 (channelBase .dmc) 0
  | .hfP1 => packWord 3 (channelBase .p1) 0
  | .hfP2 => packWord 3 (channelBase .p2) 0
  | .hfTri => packWord 3 (channelBase .tri) 0
  | .hfNoi => packWord 3 (channelBase .noi) 0
  | .hfDmc => packWord 3 (channelBase .dmc) 0
  | .rstP1 => packWord 4 (channelBase .p1) 0
  | .rstP2 => packWord 4 (channelBase .p2) 0
  | .rstTri => packWord 4 (channelBase .tri) 0
  | .rstNoi => packWord 4 (channelBase .noi) 0
  | .rstDmc => packWord 4 (channelBase .dmc) 0
  | .enP1 b => packWord 5 (channelBase .p1) (enableData b)
  | .enP2 b => packWord 5 (channelBase .p2) (enableData b)
  | .enTri b => packWord 5 (channelBase .tri) (enableData b)
  | .enNoi b => packWord 5 (channelBase .noi) (enableData b)
  | .ackDmc => packWord 6 (channelBase .dmc) 0
  | .outP1 => packWord 7 (channelBase .p1) 0
  | .outP2 => packWord 7 (channelBase .p2) 0
  | .outTri => packWord 7 (channelBase .tri) 0
  | .outNoi => packWord 7 (channelBase .noi) 0
  | .outDmc => packWord 7 (channelBase .dmc) 0
  | .lenP1 => packWord 7 (channelBase .p1) 1
  | .lenP2 => packWord 7 (channelBase .p2) 1
  | .lenTri => packWord 7 (channelBase .tri) 1
  | .lenNoi => packWord 7 (channelBase .noi) 1
  | .enqP1 => packWord 7 (channelBase .p1) 2
  | .enqP2 => packWord 7 (channelBase .p2) 2
  | .enqTri => packWord 7 (channelBase .tri) 2
  | .enqNoi => packWord 7 (channelBase .noi) 2
  | .volP1 => packWord 7 (channelBase .p1) 3
  | .volP2 => packWord 7 (channelBase .p2) 3
  | .volNoi => packWord 7 (channelBase .noi) 3
  | .irqDmc => packWord 7 (channelBase .dmc) 4
  | .mix => packWord 8 0 0

/-- The operation read from a word whose low `nbits` bits are `w`, the rest 0. -/
def decodeTableWord (nbits w : Nat) : Option Instr :=
  (decode (BitVec.ofNat 32 (w % 2 ^ nbits))).toOption

end Sys2Proof
end

