-- ==== Sys2Proof/Config.lean ====
section
/-! DEFINITION. What an implementation fixes (spec 00_scope.md section 4) and the free values. -/

namespace Sys2Proof

/-- `ND_PERIOD_W`: the width of the noise and DMC timer fields (spec R9, decision D5). -/
abbrev Config.ndPeriodW : Nat := 12

/-- A period or cycle of the noise or DMC timer (spec R9). -/
abbrev NdPeriod := BitVec Config.ndPeriodW

/-- `DMC_STALL_CYCLES`: the CPU cycles a sample fetch steals. An open parameter that no rule reads
(spec R8, decision D31). -/
opaque Config.dmcStallCycles : Nat

/-- The byte that the external bus answers to the `n`-th read when the driver has listed no answer: a FREE VALUE.
The spec says that the answer may be any byte (spec R19, decision D30). -/
opaque Config.busByte : Nat → Byte

/-- The read-only parameter tables that all channels share (spec R1 to R5, decision D33). The spec leaves their values
open and the model takes them as an argument. -/
structure Tables where
  /-- `LENGTH_TABLE` (spec R2). -/
  lengthTable : Vector Byte 32
  /-- `NOISE_PERIOD_TABLE` (spec R3). -/
  noisePeriodTable : Vector NdPeriod 16
  /-- `DMC_RATE_TABLE` (spec R4). -/
  dmcRateTable : Vector NdPeriod 16
  /-- `DUTY_TABLE`: row `duty`, step `phase` (spec R5). -/
  dutyTable : Vector (Vector Bool 8) 4
  deriving DecidableEq, Repr

/-- What the spec says of every admissible choice of tables: length entries are at most 254 (spec R2), and row 2 of the duty table
has exactly four 1-steps (spec R5). The widths of the other entries are in their types. -/
abbrev Tables.Admissible (t : Tables) : Prop :=
  (∀ i : Fin 32, t.lengthTable[i] ≤ 254#8) ∧ t.dutyTable[2].toList.count true = 4

end Sys2Proof
end

