-- ==== Sys2Proof/Machine/Channels.lean ====
section
/-! DEFINITION. The counter units, the five channel records (spec R13), what each holds at construction (spec R13, R15), and the reference
tables. -/

namespace Sys2Proof.Machine

/-- The timer unit (spec 40_timer.md): 11 bits wide on P1, P2 and TRI, `ND_PERIOD_W` on NOI and DMC (spec R9). -/
structure Timer (w : Nat) where
  timerPeriod : BitVec w
  timerCycle : BitVec w
  deriving DecidableEq, Repr

/-- The length counter with the shared flag `lengthCounterHalt`, which is also `envelopeLoop` (P1, P2, NOI) and
`linearCounterControl` (TRI) (spec R12, 41_length.md). -/
structure LengthCounter where
  lengthCounter : Byte
  lengthCounterHalt : Bool
  deriving DecidableEq, Repr

/-- The envelope generator (spec 42_envelope.md). `envelopeEnabled` selects the constant volume (spec R44). -/
structure Envelope where
  envelopeEnabled : Bool
  constantVolume : BitVec 4
  envelopePeriod : BitVec 4
  envelopeReset : Bool
  envelopeCycle : BitVec 4
  envelopeVolume : BitVec 4
  deriving DecidableEq, Repr

/-- The sweep unit (spec 43_sweep.md). -/
structure Sweep where
  sweepEnabled : Bool
  sweepPeriod : BitVec 3
  sweepNegate : Bool
  sweepShift : BitVec 3
  sweepReset : Bool
  sweepCycle : BitVec 3
  deriving DecidableEq, Repr

/-- The linear counter (spec 44_linear.md); its control flag is the length counter's halt flag (spec R12). -/
structure LinearCounter where
  linearCounter : BitVec 7
  linearCounterMax : BitVec 7
  linearCounterReset : Bool
  deriving DecidableEq, Repr

/-- A pulse channel (spec R13 section 3.1). `negateMode` is the construction constant, true for 1 (spec R7). -/
structure Pulse where
  timer : Timer 11
  length : LengthCounter
  envelope : Envelope
  sweep : Sweep
  duty : BitVec 2
  phase : BitVec 3
  negateMode : Bool
  deriving DecidableEq, Repr

/-- The triangle channel (spec R13 section 3.2). -/
structure Triangle where
  timer : Timer 11
  length : LengthCounter
  linear : LinearCounter
  phase : BitVec 5
  lastOutput : BitVec 4
  deriving DecidableEq, Repr

/-- The noise channel (spec R13 section 3.3). -/
structure Noise where
  timer : Timer Config.ndPeriodW
  length : LengthCounter
  envelope : Envelope
  shiftRegister : BitVec 15
  timerMode : Bool
  deriving DecidableEq, Repr

/-- The delta modulation channel (spec R13 section 3.4). `sampleBuffer` is `none` for `EMPTY`. -/
structure Dmc where
  timer : Timer Config.ndPeriodW
  irqEnabled : Bool
  sampleLoop : Bool
  irq : Bool
  output : BitVec 7
  sampleAddress : Addr
  sampleLength : BitVec 12
  sampleIndex : Addr
  sampleLeft : BitVec 12
  sampleBuffer : Option Byte
  shiftRegister : Byte
  shiftRegisterBits : BitVec 4
  deriving DecidableEq, Repr

/-- `LFSR_RESET`: the nonzero value the noise shift register takes at reset (spec R13, decision D18). -/
def lfsrReset : BitVec 15 := 1

/-- A pulse channel at construction (spec R13 section 3.1, R15; the values other than the timer's are decision D18). -/
def Pulse.initial (negateMode : Bool) : Pulse where
  timer := ⟨0, 0⟩
  length := ⟨0, false⟩
  envelope := ⟨false, 0, 0, false, 0, 0⟩
  sweep := ⟨false, 0, false, 0, false, 0⟩
  duty := 0
  phase := 0
  negateMode := negateMode

/-- The triangle at construction (spec R13 section 3.2, R15, decision D18). -/
def Triangle.initial : Triangle where
  timer := ⟨0, 0⟩
  length := ⟨0, false⟩
  linear := ⟨0, 0, false⟩
  phase := 0
  lastOutput := 0

/-- The noise channel at construction (spec R13 section 3.3, R15, decision D18). -/
def Noise.initial : Noise where
  timer := ⟨0, 0⟩
  length := ⟨0, false⟩
  envelope := ⟨false, 0, 0, false, 0, 0⟩
  shiftRegister := lfsrReset
  timerMode := false

/-- The DMC at construction (spec R13 section 3.4, R15, decisions D18, D19). -/
def Dmc.initial : Dmc where
  timer := ⟨0, 0⟩
  irqEnabled := false
  sampleLoop := false
  irq := false
  output := 0
  sampleAddress := 0xC000
  sampleLength := 1
  sampleIndex := 0xC000
  sampleLeft := 0
  sampleBuffer := none
  shiftRegister := 0
  shiftRegisterBits := 0

/-- The reference values of spec R2 to R5, which the spec marks as general knowledge. PRESUMED (log entry 6). -/
def referenceTables : Tables where
  lengthTable := #v[
    10, 254, 20, 2, 40, 4, 80, 6, 160, 8, 60, 10, 14, 12, 26, 14,
    12, 16, 24, 18, 48, 20, 96, 22, 192, 24, 72, 26, 16, 28, 32, 30]
  noisePeriodTable := #v[4, 8, 16, 32, 64, 96, 128, 160, 202, 254, 380, 508, 762, 1016, 2034, 4068]
  dmcRateTable := #v[428, 380, 340, 320, 286, 254, 226, 214, 190, 160, 142, 128, 106, 84, 72, 54]
  dutyTable := #v[
    #v[false, true, false, false, false, false, false, false],
    #v[false, true, true, false, false, false, false, false],
    #v[false, true, true, true, true, false, false, false],
    #v[true, false, false, true, true, true, true, true]]

end Sys2Proof.Machine
end

