-- ==== Sys2Proof/Machine/State.lean ====
section
/-! DEFINITION. The state of the block: the five channels (spec R13), the parameter tables, the event record, and the driver's side of the
interface (the script of operations, the bus answers, the returned values). -/

namespace Sys2Proof.Machine

/-- What an operation signals to the outside (spec R19): the DMC made a bus read at `addr`. -/
inductive Event where
  | fetch (addr : Addr)
  deriving DecidableEq, Repr

/-- The whole state. The channels are the block's (spec R13); the tables are its read-only parameters (spec R1); `events` is the event
record (spec R19). The driver holds the script and the position in it (spec R11). The last three fields are the MODEL's own: what the bus will
answer, how often it was read (log entry 3), and what the observation words returned (log entry 4). -/
structure State where
  p1 : Pulse
  p2 : Pulse
  tri : Triangle
  noi : Noise
  dmc : Dmc
  tables : Tables
  events : List Event
  script : List Word
  position : Nat
  busAnswers : List Byte
  busReads : Nat
  results : List Nat
  deriving DecidableEq, Repr

/-- The reasons a step can fault. No operation of the block faults (spec R112). -/
inductive Fault where
  /-- Raised by `step` alone, when the driver's script has no operation at the position: the run is over. Safe: the block
  is advanced only by operations (spec R10), so the model only stops. -/
  | endOfScript
  deriving DecidableEq, Repr

/-- The reasons a step can be refused. -/
inductive Refusal where
  /-- Raised by an arm of `exec` whose operation has no meaning yet. Safe. No arm raises it. -/
  | notModelled (mnemonic : String)
  /-- Raised by `step` on a word that is no operation (spec R29, R114: `IllegalWord(word)`). Safe: the spec ends the run there. -/
  | illegalWord (word : Word)
  /-- Raised by `construct` on a `negateMode` outside 0 and 1 (spec R113: `BadNegateMode`). Safe: no block exists then. -/
  | badNegateMode
  deriving DecidableEq, Repr

/-- The construction state of a block with the given tables and negate modes (spec R13, R15): no operation given or applied,
nothing fetched, no bus answer listed. -/
def State.constructed (tables : Tables) (negateP1 negateP2 : Bool) : State where
  p1 := Pulse.initial negateP1
  p2 := Pulse.initial negateP2
  tri := Triangle.initial
  noi := Noise.initial
  dmc := Dmc.initial
  tables := tables
  events := []
  script := []
  position := 0
  busAnswers := []
  busReads := 0
  results := []

/-- The machine right after reset: the construction state with `P1.negateMode = 1` and `P2.negateMode = 0` (spec R7, R15) and the
reference tables (log entry 6). -/
def State.reset : State := State.constructed referenceTables true false

end Sys2Proof.Machine
end

