-- ==== Sys2Proof/Machine/Operands.lean ====
section
/-! DEFINITION. The operand forms: the fields of a data byte (spec R24 to R27), the values assembled from them (spec 30_encoding.md
"Operand assembly"), and the entries of the parameter tables they index. -/

namespace Sys2Proof.Machine

/-- `v[7:6]`, the pulse duty (spec R24, decision D7). -/
def dutyField (v : Byte) : BitVec 2 := v.extractLsb' 6 2
/-- `v[5]`, the halt and envelope loop flag of P1, P2, NOI (spec R24, R26). -/
def haltField (v : Byte) : Bool := v.getLsbD 5
/-- `v[4]`, `envelopeEnabled` (spec R24, R26). -/
def envelopeEnabledField (v : Byte) : Bool := v.getLsbD 4
/-- `v[3:0]`, the constant volume and envelope period (spec R24, R26). -/
def volumeField (v : Byte) : BitVec 4 := v.extractLsb' 0 4
/-- `v[7]`, `sweepEnabled` (spec R24). -/
def sweepEnabledField (v : Byte) : Bool := v.getLsbD 7
/-- `v[6:4]`, `sweepPeriod` (spec R24). -/
def sweepPeriodField (v : Byte) : BitVec 3 := v.extractLsb' 4 3
/-- `v[3]`, `sweepNegate` (spec R24). -/
def sweepNegateField (v : Byte) : Bool := v.getLsbD 3
/-- `v[2:0]`, `sweepShift` (spec R24). -/
def sweepShiftField (v : Byte) : BitVec 3 := v.extractLsb' 0 3
/-- `v[7:3]`, the length index (spec R24 to R26, R37). -/
def lengthIndexField (v : Byte) : BitVec 5 := v.extractLsb' 3 5
/-- `v[2:0]`, the high bits of the timer period (spec R24, R25). -/
def timerHighField (v : Byte) : BitVec 3 := v.extractLsb' 0 3
/-- `v[7]`, the triangle's control and halt flag (spec R25). -/
def controlField (v : Byte) : Bool := v.getLsbD 7
/-- `v[6:0]`, the linear reload value (spec R25). -/
def linearMaxField (v : Byte) : BitVec 7 := v.extractLsb' 0 7
/-- `v[7]`, the noise `timerMode` (spec R26, decision D8). -/
def timerModeField (v : Byte) : Bool := v.getLsbD 7
/-- `v[3:0]`, the noise period index (spec R26, decision D8). -/
def periodIndexField (v : Byte) : BitVec 4 := v.extractLsb' 0 4
/-- `v[7]`, `irqEnabled` (spec R27, decision D9). -/
def irqEnabledField (v : Byte) : Bool := v.getLsbD 7
/-- `v[6]`, `sampleLoop` (spec R27, decision D9). -/
def sampleLoopField (v : Byte) : Bool := v.getLsbD 6
/-- `v[3:0]`, the DMC rate index (spec R27, decision D9). -/
def rateIndexField (v : Byte) : BitVec 4 := v.extractLsb' 0 4
/-- `v[6:0]`, the direct load (spec R27). -/
def directLoadField (v : Byte) : BitVec 7 := v.extractLsb' 0 7
/-- `$C000 + 64 * v`, the sample address (spec R27, R95). -/
def sampleAddressOf (v : Byte) : Addr := BitVec.ofNat 16 (0xC000 + 64 * v.toNat)
/-- `16 * v + 1`, the sample length (spec R27, R96). -/
def sampleLengthOf (v : Byte) : BitVec 12 := BitVec.ofNat 12 (16 * v.toNat + 1)

/-- `LENGTH_TABLE[i]` (spec R2). -/
def lengthEntry (t : Tables) (i : BitVec 5) : Byte := t.lengthTable[i.toNat]'i.isLt
/-- `NOISE_PERIOD_TABLE[i]` (spec R3). -/
def noisePeriodEntry (t : Tables) (i : BitVec 4) : NdPeriod := t.noisePeriodTable[i.toNat]'i.isLt
/-- `DMC_RATE_TABLE[i]` (spec R4). -/
def dmcRateEntry (t : Tables) (i : BitVec 4) : NdPeriod := t.dmcRateTable[i.toNat]'i.isLt
/-- `DUTY_TABLE[duty][phase]`, true for 1 (spec R5). -/
def dutyStep (t : Tables) (duty : BitVec 2) (phase : BitVec 3) : Bool :=
  (t.dutyTable[duty.toNat]'duty.isLt)[phase.toNat]'phase.isLt

/-- `TRI_SEQUENCE`: 0, 1, ..., 15, 15, 14, ..., 0 (spec R6, decision D32). -/
def triSequence (i : BitVec 5) : BitVec 4 :=
  if i.toNat ≤ 15 then BitVec.ofNat 4 i.toNat else BitVec.ofNat 4 (31 - i.toNat)

end Sys2Proof.Machine
end

