-- ==== Sys2Proof/Machine/Flags.lean ====
section
/-! DEFINITION. The one-bit values of the block. It has no condition codes (spec 10_state.md section 5): what stands here is the
second names of the shared flag, the mutes and the conditions that other rules read. -/

namespace Sys2Proof.Machine

/-- `envelopeLoop`, the halt bit's second name on P1, P2 and NOI (spec R12). -/
def envelopeLoop (l : LengthCounter) : Bool := l.lengthCounterHalt

/-- `linearCounterControl`, the halt bit's second name on TRI (spec R12). -/
def linearCounterControl (l : LengthCounter) : Bool := l.lengthCounterHalt

/-- `Enabled(ch)`: the length counter is above 0 (spec R39). -/
def lengthEnabled (l : LengthCounter) : Bool := l.lengthCounter != 0

/-- `SweepTarget(ch)`: the target period in exact integer arithmetic (spec R51, decision D10). -/
def sweepTarget (p : Pulse) : Int :=
  let period : Int := p.timer.timerPeriod.toNat
  let change : Int := (p.timer.timerPeriod.toNat >>> p.sweep.sweepShift.toNat : Nat)
  if p.sweep.sweepShift = 0 then period
  else if p.sweep.sweepNegate then period - change - p.negateMode.toNat
  else period + change

/-- `SweepMuted(ch)`: the target is below 8 or beyond 11 bits (spec R52, decision D11). -/
def sweepMuted (p : Pulse) : Bool := decide (sweepTarget p < 8 ∨ 0x7FF < sweepTarget p)

/-- The current duty step is low (spec R70). -/
def dutyLow (t : Tables) (p : Pulse) : Bool := !dutyStep t p.duty p.phase

/-- The triangle's timer period is ultrasonic, below 2 (spec R76, R81). -/
def ultrasonic (c : Triangle) : Bool := decide (c.timer.timerPeriod.toNat < 2)

/-- Both the length counter and the linear counter are nonzero (spec R42, R59, R76). -/
def triangleSounding (c : Triangle) : Bool :=
  c.length.lengthCounter != 0 && c.linear.linearCounter != 0

/-- The feedback bit of the noise shift register: bit 0 XOR (bit 6 if `timerMode`, else bit 1) (spec R87). -/
def noiseFeedback (c : Noise) : Bool :=
  c.shiftRegister.getLsbD 0 ^^ (if c.timerMode then c.shiftRegister.getLsbD 6 else c.shiftRegister.getLsbD 1)

/-- `DmcIrq`, the level of the interrupt latch (spec R105). -/
def dmcIrq (d : Dmc) : Bool := d.irq

/-- The memory reader has something to do: the buffer is empty and bytes are left (spec R97). -/
def readerActive (d : Dmc) : Bool := d.sampleBuffer.isNone && d.sampleLeft != 0

end Sys2Proof.Machine
end

