-- ==== Sys2Proof/Machine/Ops.lean ====
section
/-! DEFINITION. The shared operations: the counter units (spec 40_timer.md to 44_linear.md), the DMC's two sub-units and its bus read
(spec R19, R97, R98), the channel outputs (spec R70, R81, R92, R104), construction (spec R113), and the updates of the state. The block takes
no exceptions and no traps (spec R112, R117), so there is no exception entry. -/

namespace Sys2Proof.Machine

/-! ### Updates of the state -/

/-- The state with pulse channel 1 replaced. -/
def State.setP1 (s : State) (c : Pulse) : State := { s with p1 := c }
/-- The state with pulse channel 2 replaced. -/
def State.setP2 (s : State) (c : Pulse) : State := { s with p2 := c }
/-- The state with the triangle channel replaced. -/
def State.setTri (s : State) (c : Triangle) : State := { s with tri := c }
/-- The state with the noise channel replaced. -/
def State.setNoi (s : State) (c : Noise) : State := { s with noi := c }
/-- The state with the DMC replaced. -/
def State.setDmc (s : State) (c : Dmc) : State := { s with dmc := c }
/-- `emit e`: the event joins the record (spec R19). -/
def State.emit (s : State) (e : Event) : State := { s with events := s.events ++ [e] }
/-- An observation returns `n` to the driver and changes nothing else (spec R106). -/
def State.observe (s : State) (n : Nat) : State := { s with results := s.results ++ [n] }
/-- The driver's index moves past one operation (spec R11). -/
def State.advance (s : State) : State := { s with position := s.position + 1 }

/-! ### The driver's script -/

/-- The next operation word of the driver's script, if there is one (spec R10, R11). -/
def fetchWord (s : State) : Option Word := s.script[s.position]?

/-- The script with `w` at index `n`: the entries before and after stay, and a gap before it is filled with the word 0. -/
def scriptPlace (script : List Word) (n : Nat) (w : Word) : List Word :=
  script.take n ++ List.replicate (n - script.length) 0 ++ w :: script.drop (n + 1)

/-- A word that is no operation is refused, with the word (spec R29, R114). -/
def refuseIllegal : Illegal → Host.Outcome State Fault Refusal
  | .illegalWord w => .refused (.illegalWord w)

/-! ### Construction -/

/-- `Construct(negateMode_P1, negateMode_P2)`: refused outside 0 and 1 (spec R113). -/
def construct (tables : Tables) (negateP1 negateP2 : Nat) : Host.Outcome State Fault Refusal :=
  if negateP1 ≤ 1 ∧ negateP2 ≤ 1 then
    .next (State.constructed tables (negateP1 == 1) (negateP2 == 1))
  else .refused .badNegateMode

/-! ### Timer unit -/

/-- `TimerLowWrite(ch, v)`, the source's two-branch protocol (spec R31). -/
def timerLowWrite (t : Timer 11) (v : Byte) : Timer 11 :=
  if 0xFF < t.timerPeriod.toNat then
    { t with timerPeriod := (t.timerPeriod &&& 0x700) ||| v.setWidth 11 }
  else { t with timerPeriod := v.setWidth 11 }

/-- `TimerHighWrite(ch, h)`: bits 10:8 of the period (spec R32, decision D3). -/
def timerHighWrite (t : Timer 11) (h : BitVec 3) : Timer 11 :=
  { t with timerPeriod := h ++ t.timerPeriod.setWidth 8 }

/-- `TimerSetPeriod(ch, p)` (spec R33). -/
def timerSetPeriod {w : Nat} (t : Timer w) (p : BitVec w) : Timer w := { t with timerPeriod := p }

/-- `TimerStep(ch)`: the new timer and the tick (spec R34, decision D6). -/
def timerStep {w : Nat} (t : Timer w) : Timer w × Bool :=
  if t.timerCycle = 0 then ({ t with timerCycle := t.timerPeriod }, true)
  else ({ t with timerCycle := t.timerCycle - 1 }, false)

/-- `TimerReset(ch)` (spec R35). -/
def timerReset {w : Nat} (_ : Timer w) : Timer w := ⟨0, 0⟩

/-! ### Length counter -/

/-- `LengthLoad(ch, v)` (spec R37). -/
def lengthLoad (t : Tables) (l : LengthCounter) (v : Byte) : LengthCounter :=
  { l with lengthCounter := lengthEntry t (lengthIndexField v) }

/-- `SetEnabled(ch, b)` (spec R38). -/
def lengthSetEnabled (l : LengthCounter) (b : Bool) : LengthCounter :=
  if b then l else { l with lengthCounter := 0 }

/-- `LengthHalf(ch)` (spec R41). -/
def lengthHalf (l : LengthCounter) : LengthCounter :=
  if l.lengthCounter ≠ 0 ∧ l.lengthCounterHalt = false then
    { l with lengthCounter := l.lengthCounter - 1 }
  else l

/-- `LengthReset(ch)` (spec R43, decision D18). -/
def lengthReset (_ : LengthCounter) : LengthCounter := ⟨0, false⟩

/-! ### Envelope generator -/

/-- `VolumeWrite(ch, v)` on the envelope's own fields (spec R44). -/
def envelopeVolumeWrite (e : Envelope) (v : Byte) : Envelope :=
  { e with
    envelopeEnabled := envelopeEnabledField v
    constantVolume := volumeField v
    envelopePeriod := volumeField v }

/-- `VolumeWrite(ch, v)` on the shared halt and loop flag (spec R12, R44). -/
def haltWrite (l : LengthCounter) (v : Byte) : LengthCounter := { l with lengthCounterHalt := haltField v }

/-- `Volume(ch)` (spec R45). -/
def volume (e : Envelope) : BitVec 4 := if e.envelopeEnabled then e.constantVolume else e.envelopeVolume

/-- `EnvelopeTrigger(ch)` (spec R46). -/
def envelopeTrigger (e : Envelope) : Envelope := { e with envelopeReset := true }

/-- `EnvelopeQuarter(ch)`; `loop` is the channel's `envelopeLoop` (spec R47). -/
def envelopeQuarter (loop : Bool) (e : Envelope) : Envelope :=
  if e.envelopeReset then
    { e with envelopeReset := false, envelopeVolume := 15, envelopeCycle := e.envelopePeriod }
  else if e.envelopeCycle = 0 then
    { e with
      envelopeCycle := e.envelopePeriod
      envelopeVolume :=
        if e.envelopeVolume ≠ 0 then e.envelopeVolume - 1
        else if loop then 15
        else e.envelopeVolume }
  else { e with envelopeCycle := e.envelopeCycle - 1 }

/-- `EnvelopeResetState(ch)` (spec R48, decision D18). -/
def envelopeResetState (_ : Envelope) : Envelope := ⟨false, 0, 0, false, 0, 0⟩

/-! ### Sweep unit -/

/-- `SweepWrite(ch, v)` (spec R50). -/
def sweepWrite (w : Sweep) (v : Byte) : Sweep :=
  { w with
    sweepEnabled := sweepEnabledField v
    sweepPeriod := sweepPeriodField v
    sweepNegate := sweepNegateField v
    sweepShift := sweepShiftField v
    sweepReset := true }

/-- The sweep's update of the owning timer's period: only when enabled and the target is in range (spec R53). -/
def sweepUpdate (p : Pulse) : Timer 11 :=
  if p.sweep.sweepEnabled ∧ 8 ≤ sweepTarget p ∧ sweepTarget p ≤ 0x7FF then
    timerSetPeriod p.timer (BitVec.ofInt 11 (sweepTarget p))
  else p.timer

/-- `SweepHalf(ch)` (spec R53). -/
def sweepHalf (p : Pulse) : Pulse :=
  if p.sweep.sweepReset then
    { p with sweep := { p.sweep with sweepReset := false, sweepCycle := p.sweep.sweepPeriod } }
  else if p.sweep.sweepCycle = 0 then
    { p with
      sweep := { p.sweep with sweepCycle := p.sweep.sweepPeriod }
      timer := sweepUpdate p }
  else { p with sweep := { p.sweep with sweepCycle := p.sweep.sweepCycle - 1 } }

/-- `SweepResetState(ch)` (spec R54, decision D18). -/
def sweepResetState (_ : Sweep) : Sweep := ⟨false, 0, false, 0, false, 0⟩

/-! ### Linear counter -/

/-- `CounterWrite(TRI, v)` on the linear counter's own field (spec R56). -/
def linearMaxWrite (l : LinearCounter) (v : Byte) : LinearCounter := { l with linearCounterMax := linearMaxField v }

/-- `CounterWrite(TRI, v)` on the shared halt and control flag (spec R12, R56). -/
def controlWrite (l : LengthCounter) (v : Byte) : LengthCounter := { l with lengthCounterHalt := controlField v }

/-- `LinearTrigger(TRI)` (spec R57, decision D12). -/
def linearTrigger (l : LinearCounter) : LinearCounter := { l with linearCounterReset := true }

/-- `LinearQuarter(TRI)`; `control` is `linearCounterControl` (spec R58). -/
def linearQuarter (control : Bool) (l : LinearCounter) : LinearCounter :=
  { l with
    linearCounter :=
      if l.linearCounterReset then l.linearCounterMax
      else if l.linearCounter ≠ 0 then l.linearCounter - 1
      else l.linearCounter
    linearCounterReset := l.linearCounterReset && control }

/-- `LinearResetState(TRI)` (spec R60, decision D18). -/
def linearResetState (_ : LinearCounter) : LinearCounter := ⟨0, 0, false⟩

/-! ### The DMC's sub-units -/

/-- The byte the bus answers to the next read: the driver's answer, else a free value (spec R19, log entry 3). -/
def busByte (s : State) : Byte := s.busAnswers.headD (Config.busByte s.busReads)

/-- `BusRead`, on the bus's side: the answer is consumed and the read is counted (spec R19). -/
def State.busTaken (s : State) : State :=
  { s with busAnswers := s.busAnswers.tail, busReads := s.busReads + 1 }

/-- The cursor after a fetch at `a`: the next address, $8000 after $FFFF (spec R97, decision D17). -/
def nextIndex (a : Addr) : Addr := if a = 0xFFFF then 0x8000 else a + 1

/-- The DMC after the memory reader got the byte `b` (spec R97): the buffer is full, the cursor and the count move on; at
the last byte the sample restarts if it loops, else the interrupt is latched if enabled. -/
def dmcFetched (d : Dmc) (b : Byte) : Dmc :=
  if d.sampleLeft - 1 ≠ 0 then
    { d with
      sampleBuffer := some b
      sampleIndex := nextIndex d.sampleIndex
      sampleLeft := d.sampleLeft - 1 }
  else if d.sampleLoop then
    { d with
      sampleBuffer := some b
      sampleIndex := d.sampleAddress
      sampleLeft := d.sampleLength }
  else
    { d with
      sampleBuffer := some b
      sampleIndex := nextIndex d.sampleIndex
      sampleLeft := 0
      irq := d.irq || d.irqEnabled }

/-- `MemoryReader(DMC)` (spec R97): at most one bus read, at the cursor, with its event. -/
def memoryReader (s : State) : State :=
  if readerActive s.dmc then
    ((s.busTaken).emit (.fetch s.dmc.sampleIndex)).setDmc (dmcFetched s.dmc (busByte s))
  else s

/-- One bit of the level: up or down by 2, saturating at 127 and 0 (spec R98, decision D16). -/
def dmcLevel (up : Bool) (level : BitVec 7) : BitVec 7 :=
  if up then BitVec.ofNat 7 (min 127 (level.toNat + 2)) else BitVec.ofNat 7 (level.toNat - 2)

/-- The first half of `OutputUnit(DMC)`: play one bit, if one remains (spec R98). -/
def dmcPlayBit (d : Dmc) : Dmc :=
  if d.shiftRegisterBits ≠ 0 then
    { d with
      shiftRegister := d.shiftRegister >>> 1
      shiftRegisterBits := d.shiftRegisterBits - 1
      output := dmcLevel (d.shiftRegister.getLsbD 0) d.output }
  else d

/-- The second half of `OutputUnit(DMC)`: refill from the buffer when no bit remains (spec R98). -/
def dmcRefill (d : Dmc) : Dmc :=
  match d.sampleBuffer with
  | some b =>
    if d.shiftRegisterBits = 0 then
      { d with shiftRegister := b, shiftRegisterBits := 8, sampleBuffer := none }
    else d
  | none => d

/-- `OutputUnit(DMC)` (spec R98). -/
def outputUnit (d : Dmc) : Dmc := dmcRefill (dmcPlayBit d)

/-- The timer's part of `STEP DMC`: the output unit runs on a tick (spec R99). -/
def dmcClock (d : Dmc) : Dmc :=
  let r := timerStep d.timer
  let d' := { d with timer := r.1 }
  if r.2 then outputUnit d' else d'

/-! ### Channel outputs -/

/-- `PulseOutput(ch)` (spec R70). -/
def pulseOutput (t : Tables) (p : Pulse) : BitVec 4 :=
  if p.length.lengthCounter = 0 ∨ sweepMuted p ∨ dutyLow t p then 0 else volume p.envelope

/-- `TriangleOutput` (spec R81). -/
def triangleOutput (c : Triangle) : BitVec 4 :=
  if !triangleSounding c then 0
  else if ultrasonic c then c.lastOutput
  else triSequence c.phase

/-- `NoiseOutput` (spec R92). -/
def noiseOutput (c : Noise) : BitVec 4 :=
  if c.shiftRegister.getLsbD 0 ∨ c.length.lengthCounter = 0 then 0 else volume c.envelope

/-- `DmcOutput` (spec R104). -/
def dmcOutput (d : Dmc) : BitVec 7 := d.output

end Sys2Proof.Machine
end

