-- ==== Sys2Proof/Machine/Dmc.lean ====
section
/-! DEFINITION. The delta modulation channel DMC (spec 48_dmc.md). -/

namespace Sys2Proof.Machine

/-- A write to $4010: IRQ enable, loop, rate index (spec R93). -/
def dmcRateWrite (t : Tables) (d : Dmc) (v : Byte) : Dmc :=
  { d with
    irqEnabled := irqEnabledField v
    sampleLoop := sampleLoopField v
    timer := timerSetPeriod d.timer (dmcRateEntry t (rateIndexField v)) }

/-- A write to $4011: direct load (spec R94). -/
def dmcLevelWrite (d : Dmc) (v : Byte) : Dmc := { d with output := directLoadField v }

/-- A write to $4012: sample address; the cursor does not move (spec R95). -/
def dmcAddressWrite (d : Dmc) (v : Byte) : Dmc := { d with sampleAddress := sampleAddressOf v }

/-- A write to $4013: sample length; playback restarts (spec R96, decision D14). -/
def dmcLengthWrite (d : Dmc) (v : Byte) : Dmc :=
  { d with
    sampleLength := sampleLengthOf v
    sampleIndex := d.sampleAddress
    sampleLeft := sampleLengthOf v }

/-- `STEP DMC`: the reader, then the timer and the output unit (spec R99, decision D15). -/
def dmcStep (s : State) : State :=
  let s' := memoryReader s
  s'.setDmc (dmcClock s'.dmc)

/-- `RST DMC` (spec R102). -/
def dmcReset (d : Dmc) : Dmc where
  timer := timerReset d.timer
  irqEnabled := false
  sampleLoop := false
  irq := false
  output := 0
  sampleAddress := 0xC000
  sampleLength := 1
  sampleIndex := 0xC000
  sampleLeft := 0
  sampleBuffer := none
  shiftRegister := 0
  shiftRegisterBits := 0

/-- `ACK DMC`: the latch is cleared (spec R103). -/
def dmcAck (d : Dmc) : Dmc := { d with irq := false }

/-- `WR $4010, #v` (IRQ enable, loop, rate index) (spec R93). -/
def execWr4010 (v : Byte) (s : State) : Host.Outcome State Fault Refusal :=
  .next (s.setDmc (dmcRateWrite s.tables s.dmc v))

/-- `WR $4011, #v` (direct load) (spec R94). -/
def execWr4011 (v : Byte) (s : State) : Host.Outcome State Fault Refusal :=
  .next (s.setDmc (dmcLevelWrite s.dmc v))

/-- `WR $4012, #v` (sample address) (spec R95). -/
def execWr4012 (v : Byte) (s : State) : Host.Outcome State Fault Refusal :=
  .next (s.setDmc (dmcAddressWrite s.dmc v))

/-- `WR $4013, #v` (sample length) (spec R96). -/
def execWr4013 (v : Byte) (s : State) : Host.Outcome State Fault Refusal :=
  .next (s.setDmc (dmcLengthWrite s.dmc v))

/-- `STEP DMC` (spec R99). -/
def execStepDmc (s : State) : Host.Outcome State Fault Refusal :=
  .next (dmcStep s)

/-- `QF DMC`: no effect (spec R100, decision D27). -/
def execQfDmc (s : State) : Host.Outcome State Fault Refusal :=
  .next s

/-- `HF DMC`: no effect (spec R101, decision D27). -/
def execHfDmc (s : State) : Host.Outcome State Fault Refusal :=
  .next s

/-- `RST DMC` (spec R102). -/
def execRstDmc (s : State) : Host.Outcome State Fault Refusal :=
  .next (s.setDmc (dmcReset s.dmc))

/-- `ACK DMC` (spec R103). -/
def execAckDmc (s : State) : Host.Outcome State Fault Refusal :=
  .next (s.setDmc (dmcAck s.dmc))

end Sys2Proof.Machine
end

