-- ==== Sys2Proof/Machine/Noise.lean ====
section
/-! DEFINITION. The noise channel NOI (spec 47_noise.md). -/

namespace Sys2Proof.Machine

/-- A write to $400C: halt, envelope (spec R83). -/
def noiseVolumeWrite (c : Noise) (v : Byte) : Noise :=
  { c with
    length := haltWrite c.length v
    envelope := envelopeVolumeWrite c.envelope v }

/-- A write to $400E: mode, period index (spec R85). -/
def noisePeriodWrite (t : Tables) (c : Noise) (v : Byte) : Noise :=
  { c with
    timerMode := timerModeField v
    timer := timerSetPeriod c.timer (noisePeriodEntry t (periodIndexField v)) }

/-- A write to $400F: length index; it restarts the envelope (spec R86). -/
def noiseLengthWrite (t : Tables) (c : Noise) (v : Byte) : Noise :=
  { c with
    length := lengthLoad t c.length v
    envelope := envelopeTrigger c.envelope }

/-- The shift register after one shift: right by one, the feedback bit in at bit 14 (spec R87). -/
def noiseShift (c : Noise) : BitVec 15 :=
  (c.shiftRegister >>> 1) ||| ((BitVec.ofBool (noiseFeedback c)).setWidth 15 <<< 14)

/-- `STEP NOI` (spec R87). -/
def noiseStep (c : Noise) : Noise :=
  let r := timerStep c.timer
  { c with
    timer := r.1
    shiftRegister := if r.2 then noiseShift c else c.shiftRegister }

/-- `QF NOI` (spec R88). -/
def noiseQuarter (c : Noise) : Noise :=
  { c with envelope := envelopeQuarter (envelopeLoop c.length) c.envelope }

/-- `HF NOI` (spec R89). -/
def noiseHalf (c : Noise) : Noise := { c with length := lengthHalf c.length }

/-- `RST NOI` (spec R90). -/
def noiseReset (c : Noise) : Noise where
  timer := timerReset c.timer
  length := lengthReset c.length
  envelope := envelopeResetState c.envelope
  shiftRegister := lfsrReset
  timerMode := false

/-- `EN NOI, b` (spec R91). -/
def noiseEnable (c : Noise) (b : Bool) : Noise := { c with length := lengthSetEnabled c.length b }

/-- `WR $400C, #v` (halt, envelope) (spec R83). -/
def execWr400C (v : Byte) (s : State) : Host.Outcome State Fault Refusal :=
  .next (s.setNoi (noiseVolumeWrite s.noi v))

/-- `WR $400D, #v` (unused): no state changes (spec R84, R30, decision D20). -/
def execWr400D (_v : Byte) (s : State) : Host.Outcome State Fault Refusal :=
  .next s

/-- `WR $400E, #v` (mode, period index) (spec R85). -/
def execWr400E (v : Byte) (s : State) : Host.Outcome State Fault Refusal :=
  .next (s.setNoi (noisePeriodWrite s.tables s.noi v))

/-- `WR $400F, #v` (length index) (spec R86). -/
def execWr400F (v : Byte) (s : State) : Host.Outcome State Fault Refusal :=
  .next (s.setNoi (noiseLengthWrite s.tables s.noi v))

/-- `STEP NOI` (spec R87). -/
def execStepNoi (s : State) : Host.Outcome State Fault Refusal :=
  .next (s.setNoi (noiseStep s.noi))

/-- `QF NOI` (spec R88). -/
def execQfNoi (s : State) : Host.Outcome State Fault Refusal :=
  .next (s.setNoi (noiseQuarter s.noi))

/-- `HF NOI` (spec R89). -/
def execHfNoi (s : State) : Host.Outcome State Fault Refusal :=
  .next (s.setNoi (noiseHalf s.noi))

/-- `RST NOI` (spec R90). -/
def execRstNoi (s : State) : Host.Outcome State Fault Refusal :=
  .next (s.setNoi (noiseReset s.noi))

/-- `EN NOI, b` (spec R91). -/
def execEnNoi (b : Bool) (s : State) : Host.Outcome State Fault Refusal :=
  .next (s.setNoi (noiseEnable s.noi b))

end Sys2Proof.Machine
end

