-- ==== Sys2Proof/Machine/Observe.lean ====
section
/-! DEFINITION. The observation ports and the output sum (spec 49_output_mix.md): each returns a value to the driver and changes nothing else
(spec R106). -/

namespace Sys2Proof.Machine

/-- `MIX`: the exact unweighted sum of the five outputs (spec R111, decision D24). -/
def mixSum (s : State) : Nat :=
  (pulseOutput s.tables s.p1).toNat + (pulseOutput s.tables s.p2).toNat + (triangleOutput s.tri).toNat
    + (noiseOutput s.noi).toNat + (dmcOutput s.dmc).toNat

/-- `OUT P1` (spec R107). -/
def execOutP1 (s : State) : Host.Outcome State Fault Refusal :=
  .next (s.observe (pulseOutput s.tables s.p1).toNat)

/-- `OUT P2` (spec R107). -/
def execOutP2 (s : State) : Host.Outcome State Fault Refusal :=
  .next (s.observe (pulseOutput s.tables s.p2).toNat)

/-- `OUT TRI` (spec R107). -/
def execOutTri (s : State) : Host.Outcome State Fault Refusal :=
  .next (s.observe (triangleOutput s.tri).toNat)

/-- `OUT NOI` (spec R107). -/
def execOutNoi (s : State) : Host.Outcome State Fault Refusal :=
  .next (s.observe (noiseOutput s.noi).toNat)

/-- `OUT DMC` (spec R107). -/
def execOutDmc (s : State) : Host.Outcome State Fault Refusal :=
  .next (s.observe (dmcOutput s.dmc).toNat)

/-- `LEN P1`: the raw length counter (spec R108, R40). -/
def execLenP1 (s : State) : Host.Outcome State Fault Refusal :=
  .next (s.observe s.p1.length.lengthCounter.toNat)

/-- `LEN P2`: the raw length counter (spec R108, R40). -/
def execLenP2 (s : State) : Host.Outcome State Fault Refusal :=
  .next (s.observe s.p2.length.lengthCounter.toNat)

/-- `LEN TRI`: the raw length counter (spec R108, R40). -/
def execLenTri (s : State) : Host.Outcome State Fault Refusal :=
  .next (s.observe s.tri.length.lengthCounter.toNat)

/-- `LEN NOI`: the raw length counter (spec R108, R40). -/
def execLenNoi (s : State) : Host.Outcome State Fault Refusal :=
  .next (s.observe s.noi.length.lengthCounter.toNat)

/-- `ENQ P1`: 1 if the length counter is above 0 (spec R108, R39). -/
def execEnqP1 (s : State) : Host.Outcome State Fault Refusal :=
  .next (s.observe (lengthEnabled s.p1.length).toNat)

/-- `ENQ P2`: 1 if the length counter is above 0 (spec R108, R39). -/
def execEnqP2 (s : State) : Host.Outcome State Fault Refusal :=
  .next (s.observe (lengthEnabled s.p2.length).toNat)

/-- `ENQ TRI`: 1 if the length counter is above 0 (spec R108, R39). -/
def execEnqTri (s : State) : Host.Outcome State Fault Refusal :=
  .next (s.observe (lengthEnabled s.tri.length).toNat)

/-- `ENQ NOI`: 1 if the length counter is above 0 (spec R108, R39). -/
def execEnqNoi (s : State) : Host.Outcome State Fault Refusal :=
  .next (s.observe (lengthEnabled s.noi.length).toNat)

/-- `VOL P1` (spec R109). -/
def execVolP1 (s : State) : Host.Outcome State Fault Refusal :=
  .next (s.observe (volume s.p1.envelope).toNat)

/-- `VOL P2` (spec R109). -/
def execVolP2 (s : State) : Host.Outcome State Fault Refusal :=
  .next (s.observe (volume s.p2.envelope).toNat)

/-- `VOL NOI` (spec R109). -/
def execVolNoi (s : State) : Host.Outcome State Fault Refusal :=
  .next (s.observe (volume s.noi.envelope).toNat)

/-- `IRQ DMC`: the latch is read, not acknowledged (spec R110, decision D26). -/
def execIrqDmc (s : State) : Host.Outcome State Fault Refusal :=
  .next (s.observe (dmcIrq s.dmc).toNat)

/-- `MIX` (spec R111). -/
def execMix (s : State) : Host.Outcome State Fault Refusal :=
  .next (s.observe (mixSum s))

end Sys2Proof.Machine
end

