-- ==== Sys2Proof/Machine/Pulse.lean ====
section
/-! DEFINITION. The pulse channels P1 and P2 (spec 45_pulse.md): each rule once over a pulse record, and the meanings of both instances
(spec R71). -/

namespace Sys2Proof.Machine

/-- A write to offset 0: duty, halt, envelope (spec R61). -/
def pulseVolumeWrite (p : Pulse) (v : Byte) : Pulse :=
  { p with
    duty := dutyField v
    length := haltWrite p.length v
    envelope := envelopeVolumeWrite p.envelope v }

/-- A write to offset 1: sweep (spec R62). -/
def pulseSweepWrite (p : Pulse) (v : Byte) : Pulse := { p with sweep := sweepWrite p.sweep v }

/-- A write to offset 2: timer low (spec R63). -/
def pulseTimerLowWrite (p : Pulse) (v : Byte) : Pulse := { p with timer := timerLowWrite p.timer v }

/-- A write to offset 3: length index, timer high; it restarts the envelope and the phase (spec R64). -/
def pulseLengthWrite (t : Tables) (p : Pulse) (v : Byte) : Pulse :=
  { p with
    length := lengthLoad t p.length v
    timer := timerHighWrite p.timer (timerHighField v)
    envelope := envelopeTrigger p.envelope
    phase := 0 }

/-- `STEP ch` (spec R65). -/
def pulseStep (p : Pulse) : Pulse :=
  let r := timerStep p.timer
  { p with
    timer := r.1
    phase := if r.2 then p.phase + 1 else p.phase }

/-- `QF ch` (spec R66). -/
def pulseQuarter (p : Pulse) : Pulse :=
  { p with envelope := envelopeQuarter (envelopeLoop p.length) p.envelope }

/-- `HF ch` (spec R67). -/
def pulseHalf (p : Pulse) : Pulse := sweepHalf { p with length := lengthHalf p.length }

/-- `RST ch`: every field but `negateMode` (spec R68). -/
def pulseReset (p : Pulse) : Pulse :=
  { p with
    timer := timerReset p.timer
    length := lengthReset p.length
    envelope := envelopeResetState p.envelope
    sweep := sweepResetState p.sweep
    duty := 0
    phase := 0 }

/-- `EN ch, b` (spec R69). -/
def pulseEnable (p : Pulse) (b : Bool) : Pulse := { p with length := lengthSetEnabled p.length b }

/-- `WR $4000, #v` (duty, halt, envelope) (spec R61). -/
def execWr4000 (v : Byte) (s : State) : Host.Outcome State Fault Refusal :=
  .next (s.setP1 (pulseVolumeWrite s.p1 v))

/-- `WR $4001, #v` (sweep) (spec R62). -/
def execWr4001 (v : Byte) (s : State) : Host.Outcome State Fault Refusal :=
  .next (s.setP1 (pulseSweepWrite s.p1 v))

/-- `WR $4002, #v` (timer low) (spec R63). -/
def execWr4002 (v : Byte) (s : State) : Host.Outcome State Fault Refusal :=
  .next (s.setP1 (pulseTimerLowWrite s.p1 v))

/-- `WR $4003, #v` (length index, timer high) (spec R64). -/
def execWr4003 (v : Byte) (s : State) : Host.Outcome State Fault Refusal :=
  .next (s.setP1 (pulseLengthWrite s.tables s.p1 v))

/-- `STEP P1` (spec R65). -/
def execStepP1 (s : State) : Host.Outcome State Fault Refusal :=
  .next (s.setP1 (pulseStep s.p1))

/-- `QF P1` (spec R66). -/
def execQfP1 (s : State) : Host.Outcome State Fault Refusal :=
  .next (s.setP1 (pulseQuarter s.p1))

/-- `HF P1` (spec R67). -/
def execHfP1 (s : State) : Host.Outcome State Fault Refusal :=
  .next (s.setP1 (pulseHalf s.p1))

/-- `RST P1` (spec R68). -/
def execRstP1 (s : State) : Host.Outcome State Fault Refusal :=
  .next (s.setP1 (pulseReset s.p1))

/-- `EN P1, b` (spec R69). -/
def execEnP1 (b : Bool) (s : State) : Host.Outcome State Fault Refusal :=
  .next (s.setP1 (pulseEnable s.p1 b))

/-- `WR $4004, #v` (duty, halt, envelope) (spec R61). -/
def execWr4004 (v : Byte) (s : State) : Host.Outcome State Fault Refusal :=
  .next (s.setP2 (pulseVolumeWrite s.p2 v))

/-- `WR $4005, #v` (sweep) (spec R62). -/
def execWr4005 (v : Byte) (s : State) : Host.Outcome State Fault Refusal :=
  .next (s.setP2 (pulseSweepWrite s.p2 v))

/-- `WR $4006, #v` (timer low) (spec R63). -/
def execWr4006 (v : Byte) (s : State) : Host.Outcome State Fault Refusal :=
  .next (s.setP2 (pulseTimerLowWrite s.p2 v))

/-- `WR $4007, #v` (length index, timer high) (spec R64). -/
def execWr4007 (v : Byte) (s : State) : Host.Outcome State Fault Refusal :=
  .next (s.setP2 (pulseLengthWrite s.tables s.p2 v))

/-- `STEP P2` (spec R65). -/
def execStepP2 (s : State) : Host.Outcome State Fault Refusal :=
  .next (s.setP2 (pulseStep s.p2))

/-- `QF P2` (spec R66). -/
def execQfP2 (s : State) : Host.Outcome State Fault Refusal :=
  .next (s.setP2 (pulseQuarter s.p2))

/-- `HF P2` (spec R67). -/
def execHfP2 (s : State) : Host.Outcome State Fault Refusal :=
  .next (s.setP2 (pulseHalf s.p2))

/-- `RST P2` (spec R68). -/
def execRstP2 (s : State) : Host.Outcome State Fault Refusal :=
  .next (s.setP2 (pulseReset s.p2))

/-- `EN P2, b` (spec R69). -/
def execEnP2 (b : Bool) (s : State) : Host.Outcome State Fault Refusal :=
  .next (s.setP2 (pulseEnable s.p2 b))

end Sys2Proof.Machine
end

