-- ==== Sys2Proof/Machine/Triangle.lean ====
section
/-! DEFINITION. The triangle channel TRI (spec 46_triangle.md). -/

namespace Sys2Proof.Machine

/-- A write to $4008: control, linear reload (spec R72). -/
def triangleCounterWrite (c : Triangle) (v : Byte) : Triangle :=
  { c with
    linear := linearMaxWrite c.linear v
    length := controlWrite c.length v }

/-- A write to $400A: timer low (spec R74). -/
def triangleTimerLowWrite (c : Triangle) (v : Byte) : Triangle := { c with timer := timerLowWrite c.timer v }

/-- A write to $400B: length index, timer high; it triggers the linear reload (spec R75). -/
def triangleLengthWrite (t : Tables) (c : Triangle) (v : Byte) : Triangle :=
  { c with
    length := lengthLoad t c.length v
    timer := timerHighWrite c.timer (timerHighField v)
    linear := linearTrigger c.linear }

/-- `STEP TRI`, first part: the timer, and the phase on a tick while both counters are nonzero (spec R76). -/
def triangleClock (c : Triangle) : Triangle :=
  let r := timerStep c.timer
  { c with
    timer := r.1
    phase := if r.2 && triangleSounding c then c.phase + 1 else c.phase }

/-- `STEP TRI`, second part: the held output follows the phase unless the period is ultrasonic (spec R76, decision D13). -/
def triangleHold (c : Triangle) : Triangle :=
  if ultrasonic c then c else { c with lastOutput := triSequence c.phase }

/-- `STEP TRI` (spec R76). -/
def triangleStep (c : Triangle) : Triangle := triangleHold (triangleClock c)

/-- `QF TRI` (spec R77). -/
def triangleQuarter (c : Triangle) : Triangle :=
  { c with linear := linearQuarter (linearCounterControl c.length) c.linear }

/-- `HF TRI` (spec R78). -/
def triangleHalf (c : Triangle) : Triangle := { c with length := lengthHalf c.length }

/-- `RST TRI` (spec R79). -/
def triangleReset (c : Triangle) : Triangle where
  timer := timerReset c.timer
  length := lengthReset c.length
  linear := linearResetState c.linear
  phase := 0
  lastOutput := 0

/-- `EN TRI, b` (spec R80). -/
def triangleEnable (c : Triangle) (b : Bool) : Triangle := { c with length := lengthSetEnabled c.length b }

/-- `WR $4008, #v` (control, linear reload) (spec R72). -/
def execWr4008 (v : Byte) (s : State) : Host.Outcome State Fault Refusal :=
  .next (s.setTri (triangleCounterWrite s.tri v))

/-- `WR $4009, #v` (unused): no state changes (spec R73, R30, decision D20). -/
def execWr4009 (_v : Byte) (s : State) : Host.Outcome State Fault Refusal :=
  .next s

/-- `WR $400A, #v` (timer low) (spec R74). -/
def execWr400A (v : Byte) (s : State) : Host.Outcome State Fault Refusal :=
  .next (s.setTri (triangleTimerLowWrite s.tri v))

/-- `WR $400B, #v` (length index, timer high) (spec R75). -/
def execWr400B (v : Byte) (s : State) : Host.Outcome State Fault Refusal :=
  .next (s.setTri (triangleLengthWrite s.tables s.tri v))

/-- `STEP TRI` (spec R76). -/
def execStepTri (s : State) : Host.Outcome State Fault Refusal :=
  .next (s.setTri (triangleStep s.tri))

/-- `QF TRI` (spec R77). -/
def execQfTri (s : State) : Host.Outcome State Fault Refusal :=
  .next (s.setTri (triangleQuarter s.tri))

/-- `HF TRI` (spec R78). -/
def execHfTri (s : State) : Host.Outcome State Fault Refusal :=
  .next (s.setTri (triangleHalf s.tri))

/-- `RST TRI` (spec R79). -/
def execRstTri (s : State) : Host.Outcome State Fault Refusal :=
  .next (s.setTri (triangleReset s.tri))

/-- `EN TRI, b` (spec R80). -/
def execEnTri (b : Bool) (s : State) : Host.Outcome State Fault Refusal :=
  .next (s.setTri (triangleEnable s.tri b))

end Sys2Proof.Machine
end

