-- ==== Sys2Proof/Machine/Dispatch.lean ====
section
/-! DEFINITION. The meaning of every operation: one arm per row of the opcode table. -/

namespace Sys2Proof.Machine

def exec (i : Instr) (s : State) : Host.Outcome State Fault Refusal :=
  match i with
  | .wr4000 v => Sys2Proof.Machine.execWr4000 v s
  | .wr4001 v => Sys2Proof.Machine.execWr4001 v s
  | .wr4002 v => Sys2Proof.Machine.execWr4002 v s
  | .wr4003 v => Sys2Proof.Machine.execWr4003 v s
  | .wr4004 v => Sys2Proof.Machine.execWr4004 v s
  | .wr4005 v => Sys2Proof.Machine.execWr4005 v s
  | .wr4006 v => Sys2Proof.Machine.execWr4006 v s
  | .wr4007 v => Sys2Proof.Machine.execWr4007 v s
  | .wr4008 v => Sys2Proof.Machine.execWr4008 v s
  | .wr4009 v => Sys2Proof.Machine.execWr4009 v s
  | .wr400A v => Sys2Proof.Machine.execWr400A v s
  | .wr400B v => Sys2Proof.Machine.execWr400B v s
  | .wr400C v => Sys2Proof.Machine.execWr400C v s
  | .wr400D v => Sys2Proof.Machine.execWr400D v s
  | .wr400E v => Sys2Proof.Machine.execWr400E v s
  | .wr400F v => Sys2Proof.Machine.execWr400F v s
  | .wr4010 v => Sys2Proof.Machine.execWr4010 v s
  | .wr4011 v => Sys2Proof.Machine.execWr4011 v s
  | .wr4012 v => Sys2Proof.Machine.execWr4012 v s
  | .wr4013 v => Sys2Proof.Machine.execWr4013 v s
  | .stepP1 => Sys2Proof.Machine.execStepP1 s
  | .stepP2 => Sys2Proof.Machine.execStepP2 s
  | .stepTri => Sys2Proof.Machine.execStepTri s
  | .stepNoi => Sys2Proof.Machine.execStepNoi s
  | .stepDmc => Sys2Proof.Machine.execStepDmc s
  | .qfP1 => Sys2Proof.Machine.execQfP1 s
  | .qfP2 => Sys2Proof.Machine.execQfP2 s
  | .qfTri => Sys2Proof.Machine.execQfTri s
  | .qfNoi => Sys2Proof.Machine.execQfNoi s
  | .qfDmc => Sys2Proof.Machine.execQfDmc s
  | .hfP1 => Sys2Proof.Machine.execHfP1 s
  | .hfP2 => Sys2Proof.Machine.execHfP2 s
  | .hfTri => Sys2Proof.Machine.execHfTri s
  | .hfNoi => Sys2Proof.Machine.execHfNoi s
  | .hfDmc => Sys2Proof.Machine.execHfDmc s
  | .rstP1 => Sys2Proof.Machine.execRstP1 s
  | .rstP2 => Sys2Proof.Machine.execRstP2 s
  | .rstTri => Sys2Proof.Machine.execRstTri s
  | .rstNoi => Sys2Proof.Machine.execRstNoi s
  | .rstDmc => Sys2Proof.Machine.execRstDmc s
  | .enP1 b => Sys2Proof.Machine.execEnP1 b s
  | .enP2 b => Sys2Proof.Machine.execEnP2 b s
  | .enTri b => Sys2Proof.Machine.execEnTri b s
  | .enNoi b => Sys2Proof.Machine.execEnNoi b s
  | .ackDmc => Sys2Proof.Machine.execAckDmc s
  | .outP1 => Sys2Proof.Machine.execOutP1 s
  | .outP2 => Sys2Proof.Machine.execOutP2 s
  | .outTri => Sys2Proof.Machine.execOutTri s
  | .outNoi => Sys2Proof.Machine.execOutNoi s
  | .outDmc => Sys2Proof.Machine.execOutDmc s
  | .lenP1 => Sys2Proof.Machine.execLenP1 s
  | .lenP2 => Sys2Proof.Machine.execLenP2 s
  | .lenTri => Sys2Proof.Machine.execLenTri s
  | .lenNoi => Sys2Proof.Machine.execLenNoi s
  | .enqP1 => Sys2Proof.Machine.execEnqP1 s
  | .enqP2 => Sys2Proof.Machine.execEnqP2 s
  | .enqTri => Sys2Proof.Machine.execEnqTri s
  | .enqNoi => Sys2Proof.Machine.execEnqNoi s
  | .volP1 => Sys2Proof.Machine.execVolP1 s
  | .volP2 => Sys2Proof.Machine.execVolP2 s
  | .volNoi => Sys2Proof.Machine.execVolNoi s
  | .irqDmc => Sys2Proof.Machine.execIrqDmc s
  | .mix => Sys2Proof.Machine.execMix s

end Sys2Proof.Machine
end

