-- ==== Sys2Proof/Machine/Step.lean ====
section
/-! DEFINITION. One step: the operation at the driver's position is decoded and executed (spec R10, R11). -/

namespace Sys2Proof.Machine

/-- One operation of the driver's script: the index advances by one and the operation runs. An illegal word is refused (spec R29,
R114); past the script's end the run is over (log entry 2). -/
def step (s : State) : Host.Outcome State Fault Refusal :=
  match fetchWord s with
  | none => .fault .endOfScript
  | some w =>
    match decode w with
    | .ok i => exec i s.advance
    | .error e => refuseIllegal e

/-- `s` with the operation whose low `nbits` bits are `w` stored where `step` takes its next operation. -/
def State.withFetchWord (s : State) (nbits w : Nat) : State :=
  { s with script := scriptPlace s.script s.position (BitVec.ofNat 32 (w % 2 ^ nbits)) }

end Sys2Proof.Machine
end

