-- ==== Sys2Proof/Safety.lean ====
section
/-! DEFINITION. The terms the claims use: the invariant of spec R14, which channel an operation names (spec R1, R20), which operations only
observe (spec R106), what the driver cannot tell apart, repeated operations, and the counter units written field by field. -/

namespace Sys2Proof.Machine

/-! ### The invariant of spec R14 -/

/-- R14(a): the envelope period and the constant volume are the same four bits. -/
abbrev Envelope.Paired (e : Envelope) : Prop := e.envelopePeriod = e.constantVolume

/-- R14(d), (e), (f): the DMC's addresses, counts and bit count are in range, with the ranges of the columns of R13. -/
abbrev Dmc.InRange (d : Dmc) : Prop :=
  0x8000 ≤ d.sampleIndex.toNat ∧ 0xC000 ≤ d.sampleAddress.toNat ∧ d.sampleAddress.toNat ≤ 0xFFC0 ∧
  d.sampleAddress.toNat % 64 = 0 ∧ 1 ≤ d.sampleLength.toNat ∧ d.sampleLeft.toNat ≤ d.sampleLength.toNat ∧
  d.sampleLength.toNat ≤ 4081 ∧ d.shiftRegisterBits.toNat ≤ 8

/-- R14(g): the length counter is at most 254. -/
abbrev LengthCounter.InRange (l : LengthCounter) : Prop := l.lengthCounter.toNat ≤ 254

/-- Spec R14, with the admissible tables that (g) presupposes. R14(c) speaks of the timer's past and stands in a statement of its own;
`DMC.output <= 127` of (f) is the width of the field. -/
abbrev State.Inv (s : State) : Prop :=
  s.tables.Admissible ∧
  (s.p1.envelope.Paired ∧ s.p2.envelope.Paired ∧ s.noi.envelope.Paired) ∧
  s.noi.shiftRegister ≠ 0 ∧
  s.dmc.InRange ∧
  (s.p1.length.InRange ∧ s.p2.length.InRange ∧ s.tri.length.InRange ∧ s.noi.length.InRange)

/-! ### Operations by the channel they name -/

/-- The channel an operation names; `MIX` names none (spec R23, R28). -/
def operationChannel : Instr → Option Channel
  | .wr4000 _ | .wr4001 _ | .wr4002 _ | .wr4003 _ | .stepP1 | .qfP1 | .hfP1 | .rstP1 | .enP1 _
  | .outP1 | .lenP1 | .enqP1 | .volP1 => some .p1
  | .wr4004 _ | .wr4005 _ | .wr4006 _ | .wr4007 _ | .stepP2 | .qfP2 | .hfP2 | .rstP2 | .enP2 _
  | .outP2 | .lenP2 | .enqP2 | .volP2 => some .p2
  | .wr4008 _ | .wr4009 _ | .wr400A _ | .wr400B _ | .stepTri | .qfTri | .hfTri | .rstTri | .enTri _
  | .outTri | .lenTri | .enqTri => some .tri
  | .wr400C _ | .wr400D _ | .wr400E _ | .wr400F _ | .stepNoi | .qfNoi | .hfNoi | .rstNoi | .enNoi _
  | .outNoi | .lenNoi | .enqNoi | .volNoi => some .noi
  | .wr4010 _ | .wr4011 _ | .wr4012 _ | .wr4013 _ | .stepDmc | .qfDmc | .hfDmc | .rstDmc | .ackDmc
  | .outDmc | .irqDmc => some .dmc
  | .mix => none

/-- The words of kind 7 and 8 (spec R106). -/
def isObservation : Instr → Bool
  | .outP1 | .outP2 | .outTri | .outNoi | .outDmc | .lenP1 | .lenP2 | .lenTri | .lenNoi
  | .enqP1 | .enqP2 | .enqTri | .enqNoi | .volP1 | .volP2 | .volNoi | .irqDmc | .mix => true
  | .wr4000 _ | .wr4001 _ | .wr4002 _ | .wr4003 _ | .wr4004 _ | .wr4005 _ | .wr4006 _ | .wr4007 _
  | .wr4008 _ | .wr4009 _ | .wr400A _ | .wr400B _ | .wr400C _ | .wr400D _ | .wr400E _ | .wr400F _
  | .wr4010 _ | .wr4011 _ | .wr4012 _ | .wr4013 _
  | .stepP1 | .stepP2 | .stepTri | .stepNoi | .stepDmc | .qfP1 | .qfP2 | .qfTri | .qfNoi | .qfDmc
  | .hfP1 | .hfP2 | .hfTri | .hfNoi | .hfDmc | .rstP1 | .rstP2 | .rstTri | .rstNoi | .rstDmc
  | .enP1 _ | .enP2 _ | .enTri _ | .enNoi _ | .ackDmc => false

/-! ### Sequences of operations -/

/-- Apply the operations of a list in order, stopping where one does not complete (spec R10). -/
def applyAll : List Instr → State → Host.Outcome State Fault Refusal
  | [], s => .next s
  | i :: rest, s =>
    match exec i s with
    | .next t => applyAll rest t
    | .fault r => .fault r
    | .refused r => .refused r

/-- The same operation `n` times in a row: `STEP ch xN` of the script syntax and its like (spec 30_encoding.md section 6). -/
def applyTimes (n : Nat) (i : Instr) (s : State) : Host.Outcome State Fault Refusal := applyAll (List.replicate n i) s

/-- Both orders of two operations complete, in the same state (spec R130). -/
def bothOrdersAgree (i j : Instr) (s : State) : Prop := ∃ t, applyAll [i, j] s = .next t ∧ applyAll [j, i] s = .next t

/-- Two states agree but for the values already returned to the driver: same channels, tables, events, script and bus (spec R20: "the same state
and the same events"). -/
abbrev sameButResults (s t : State) : Prop := { s with results := [] } = { t with results := [] }

/-! ### The counter units, field by field -/

/-- A timer after one step, by its fields (spec R34). -/
def clockedTimer {w : Nat} (t : Timer w) : Timer w where
  timerPeriod := t.timerPeriod
  timerCycle := if t.timerCycle = 0 then t.timerPeriod else BitVec.ofNat w (t.timerCycle.toNat - 1)

/-- An envelope after one quarter frame, by its fields (spec R47). -/
def quarteredEnvelope (loop : Bool) (e : Envelope) : Envelope where
  envelopeEnabled := e.envelopeEnabled
  constantVolume := e.constantVolume
  envelopePeriod := e.envelopePeriod
  envelopeReset := false
  envelopeCycle :=
    if e.envelopeReset ∨ e.envelopeCycle = 0 then e.envelopePeriod
    else BitVec.ofNat 4 (e.envelopeCycle.toNat - 1)
  envelopeVolume :=
    if e.envelopeReset then 15
    else if e.envelopeCycle ≠ 0 then e.envelopeVolume
    else if e.envelopeVolume = 0 ∧ loop then 15
    else BitVec.ofNat 4 (e.envelopeVolume.toNat - 1)

/-- A length counter after one half frame, by its fields: the Nat subtraction stops at 0 (spec R41). -/
def halvedLength (l : LengthCounter) : LengthCounter where
  lengthCounter := BitVec.ofNat 8 (l.lengthCounter.toNat - (if l.lengthCounterHalt then 0 else 1))
  lengthCounterHalt := l.lengthCounterHalt

/-- The half frame's sweep update is due: no reload is pending, the divider underflows, the sweep is enabled and the target is in 8..$7FF
(spec R53). -/
abbrev sweepDue (p : Pulse) : Prop :=
  p.sweep.sweepReset = false ∧ p.sweep.sweepCycle = 0 ∧ p.sweep.sweepEnabled = true ∧
  8 ≤ sweepTarget p ∧ sweepTarget p ≤ 0x7FF

/-- A pulse channel after one half frame, by its fields (spec R67, R41, R53). -/
def halvedPulse (p : Pulse) : Pulse :=
  { p with
    length := halvedLength p.length
    timer.timerPeriod := if sweepDue p then BitVec.ofInt 11 (sweepTarget p) else p.timer.timerPeriod
    sweep.sweepReset := false
    sweep.sweepCycle :=
      if p.sweep.sweepReset ∨ p.sweep.sweepCycle = 0 then p.sweep.sweepPeriod
      else BitVec.ofNat 3 (p.sweep.sweepCycle.toNat - 1) }

/-- The 11-bit period whose bits 10:8 are `h` and whose bits 7:0 are `l` (spec R127: `{offset3[2:0], offset2}`). -/
def joinedPeriod (h l : Nat) : BitVec 11 := BitVec.ofNat 11 (256 * h + l)

/-- The memory reader fetches in this state (spec R97). -/
abbrev fetchDue (d : Dmc) : Prop := d.sampleBuffer = none ∧ d.sampleLeft ≠ 0

/-- The byte the DMC gets if it reads now: the driver's next answer, else the free value of this read (spec R19, log entry 3). -/
def answeredByte (s : State) : Byte :=
  match s.busAnswers with
  | b :: _ => b
  | [] => Config.busByte s.busReads

/-- What stands in the sample buffer after the reader's turn (spec R97). -/
def bufferAfterReader (s : State) : Option Byte := if fetchDue s.dmc then some (answeredByte s) else s.dmc.sampleBuffer

end Sys2Proof.Machine
end

