-- ==== Sys2Proof/Certificates/Slice0/Obligations.lean ====
section
/-! DEFINITION. The statements for the provers, from the spec's numbered rules. Each is about every state unless it says otherwise. -/

open Sys2Proof Sys2Proof.Machine

/-- O1. When the word at the position of the driver's script decodes to an operation i, step is exec of i at the state whose
position is one further and whose every other field is the same. The script and the position are spec R10/R11
(decision D1, log entry 1). -/
def Obligations.StepRunsDecodedOperation : Prop :=
  ∀ (s : State) (w : Word) (i : Instr), s.script[s.position]? = some w → decode w = .ok i →
    step s = exec i { s with position := s.position + 1 }

/-- O2. When the word at the position matches no row of the opcode table, step is refused as IllegalWord with that word (spec
R29, R114; that such words are refused is decision D21). -/
def Obligations.StepRefusesWordOfNoRow : Prop :=
  ∀ (s : State) (w : Word), s.script[s.position]? = some w →
    (∀ r ∈ opcodeTable, r.matchesWord w = false) → step s = .refused (.illegalWord w)

/-- O3. When the script has no word at the position, step answers the fault endOfScript. This is the model's choice (log entry
2): the spec only says that nothing happens between operations (R10). -/
def Obligations.StepStopsAfterLastOperation : Prop :=
  ∀ s : State, s.script.length ≤ s.position → step s = .fault .endOfScript

/-- O4. For every 32-bit word: it decodes to some operation if and only if there is a row of the opcode table that it matches
and every row it matches is that row (spec R22, with the numbers of decision D2). -/
def Obligations.LegalWordMatchesExactlyOneRow : Prop :=
  ∀ w : Word, (∃ i, decode w = .ok i) ↔
    ∃ r ∈ opcodeTable, r.matchesWord w = true ∧ ∀ r' ∈ opcodeTable, r'.matchesWord w = true → r' = r

/-- O5. For every operation of the whole table, with its data byte or enable bit at every value, decode of encode is the
operation. -/
def Obligations.DecodeOfEncode : Prop :=
  ∀ i : Instr, decode (encode i) = .ok i

/-- O6. For every 32-bit word w: if w decodes to i then encode i is w, so no bit of a legal word is ignored by the decoder and
no two words decode to one operation. -/
def Obligations.EncodeOfDecode : Prop :=
  ∀ (w : Word) (i : Instr), decode w = .ok i → encode i = w

/-- O7. All the example words of spec 30_encoding.md section 6 and of 95_test_vectors.md T-ENC-1 to T-ENC-8, and one word each
of its programs PROG-2 (0x00400B08), PROG-3 (0x00401140) and PROG-5 (0x00400F18), decode to the operation written
beside them; 0x01400000 (T-ENC-8) is refused. -/
def Obligations.SpecWordsDecode : Prop :=
  decode 0x004000BF = .ok (.wr4000 0xBF) ∧ decode 0x00400900 = .ok (.wr4009 0x00) ∧
  decode 0x00400B08 = .ok (.wr400B 0x08) ∧ decode 0x00400F18 = .ok (.wr400F 0x18) ∧
  decode 0x00401140 = .ok (.wr4011 0x40) ∧ decode 0x10400000 = .ok .stepP1 ∧
  decode 0x20400800 = .ok .qfTri ∧ decode 0x30400C00 = .ok .hfNoi ∧
  decode 0x40401000 = .ok .rstDmc ∧ decode 0x50400401 = .ok (.enP2 true) ∧
  decode 0x50400C00 = .ok (.enNoi false) ∧ decode 0x60401000 = .ok .ackDmc ∧
  decode 0x70400800 = .ok .outTri ∧ decode 0x70401004 = .ok .irqDmc ∧
  decode 0x80000000 = .ok .mix ∧ decode 0x01400000 = .error (.illegalWord 0x01400000)

/-- O8. For all tables and all numbers a, b: if both are 0 or 1, construction gives the reset column of R13 with P1.negateMode
= a and P2.negateMode = b; otherwise it is refused as BadNegateMode. The refusal is R113; the values of the reset
column other than the timers' are decisions D18 and D19 (log entry 11). -/
def Obligations.ConstructionChecksNegateMode : Prop :=
  ∀ (tables : Tables) (a b : Nat),
    ((a = 0 ∨ a = 1) ∧ (b = 0 ∨ b = 1) →
      construct tables a b = .next
        { State.reset with
          tables := tables
          p1.negateMode := decide (a = 1)
          p2.negateMode := decide (b = 1) }) ∧
    (¬((a = 0 ∨ a = 1) ∧ (b = 0 ∨ b = 1)) → construct tables a b = .refused .badNegateMode)

/-- O9. The channels of State.reset have exactly the values of the reset column: timers zero (R35), LFSR 1, sample address and
cursor $C000, sample length 1, buffer EMPTY, P1.negateMode 1, P2.negateMode 0, all else 0. The spec marks the values
other than the timers' as its own choices D10, D18, D19 (log entries 7 and 11). -/
def Obligations.ResetStateIsTheResetColumn : Prop :=
  State.reset.p1 =
    { timer := ⟨0, 0⟩, length := ⟨0, false⟩, envelope := ⟨false, 0, 0, false, 0, 0⟩,
      sweep := ⟨false, 0, false, 0, false, 0⟩, duty := 0, phase := 0, negateMode := true } ∧
  State.reset.p2 =
    { timer := ⟨0, 0⟩, length := ⟨0, false⟩, envelope := ⟨false, 0, 0, false, 0, 0⟩,
      sweep := ⟨false, 0, false, 0, false, 0⟩, duty := 0, phase := 0, negateMode := false } ∧
  State.reset.tri =
    { timer := ⟨0, 0⟩, length := ⟨0, false⟩, linear := ⟨0, 0, false⟩, phase := 0, lastOutput := 0 } ∧
  State.reset.noi =
    { timer := ⟨0, 0⟩, length := ⟨0, false⟩, envelope := ⟨false, 0, 0, false, 0, 0⟩,
      shiftRegister := 1, timerMode := false } ∧
  State.reset.dmc =
    { timer := ⟨0, 0⟩, irqEnabled := false, sampleLoop := false, irq := false, output := 0,
      sampleAddress := 0xC000, sampleLength := 1, sampleIndex := 0xC000, sampleLeft := 0,
      sampleBuffer := none, shiftRegister := 0, shiftRegisterBits := 0 }

/-- O10. State.reset satisfies State.Inv: the tables are admissible, the envelope period equals the constant volume, the noise
shift register is not 0, the DMC fields are in range, the length counters are at most 254. It rests on the reference
tables the model puts into State.reset (log entry 6). -/
def Obligations.ResetStateMeetsTheInvariant : Prop :=
  State.reset.Inv

/-- O11. From every state each RST word answers the next state in which its own channel holds the values of State.reset's
channel (the pulse channels keep their negateMode) and everything else is unchanged (R120; the values are decision
D18). -/
def Obligations.ResetWordsRestoreTheirChannel : Prop :=
  ∀ s : State,
    exec .rstP1 s = .next { s with p1 := { State.reset.p1 with negateMode := s.p1.negateMode } } ∧
    exec .rstP2 s = .next { s with p2 := { State.reset.p2 with negateMode := s.p2.negateMode } } ∧
    exec .rstTri s = .next { s with tri := State.reset.tri } ∧
    exec .rstNoi s = .next { s with noi := State.reset.noi } ∧
    exec .rstDmc s = .next { s with dmc := State.reset.dmc }

/-- O12. From every state and for all tables, the five RST words in order complete; then MIX returns 0 and IRQ DMC returns 0,
and no event has been emitted (R120 to R122; the reset values are decision D18). -/
def Obligations.SilentAfterResettingEveryChannel : Prop :=
  ∀ s : State, ∃ t : State,
    applyAll [.rstP1, .rstP2, .rstTri, .rstNoi, .rstDmc, .mix, .irqDmc] s = .next t ∧
    t.results = s.results ++ [0, 0] ∧ t.events = s.events

/-- O13. Whatever operation exec runs in whatever state, both negateMode constants (R7), the parameter tables (R1, R120) and
the driver's script and position are the same afterwards. That exec leaves script and position alone is the model's
choice (log entry 1): the advance by one per operation (R11, decision D1) is made by step, before exec. -/
def Obligations.ConstructionConstantsNeverChange : Prop :=
  ∀ (i : Instr) (s t : State), exec i s = .next t →
    t.p1.negateMode = s.p1.negateMode ∧ t.p2.negateMode = s.p2.negateMode ∧ t.tables = s.tables ∧
    t.script = s.script ∧ t.position = s.position

/-- O14. For every byte v and every state: duty takes v[7:6] (position: decision D7), lengthCounterHalt v[5], envelopeEnabled
v[4], constantVolume and envelopePeriod v[3:0]; every other field of the state is unchanged. -/
def Obligations.PulseDutyWriteSetsItsFields : Prop :=
  ∀ (v : Byte) (s : State),
    exec (.wr4000 v) s = .next
      { s with
        p1.duty := v.extractLsb 7 6
        p1.length.lengthCounterHalt := v.getLsbD 5
        p1.envelope.envelopeEnabled := v.getLsbD 4
        p1.envelope.constantVolume := v.extractLsb 3 0
        p1.envelope.envelopePeriod := v.extractLsb 3 0 } ∧
    exec (.wr4004 v) s = .next
      { s with
        p2.duty := v.extractLsb 7 6
        p2.length.lengthCounterHalt := v.getLsbD 5
        p2.envelope.envelopeEnabled := v.getLsbD 4
        p2.envelope.constantVolume := v.extractLsb 3 0
        p2.envelope.envelopePeriod := v.extractLsb 3 0 }

/-- O15. For every byte v and every state: sweepEnabled takes v[7], sweepPeriod v[6:4], sweepNegate v[3], sweepShift v[2:0],
sweepReset becomes 1; sweepCycle, timerPeriod and every other field are unchanged. -/
def Obligations.SweepWriteSetsItsFields : Prop :=
  ∀ (v : Byte) (s : State),
    exec (.wr4001 v) s = .next
      { s with
        p1.sweep.sweepEnabled := v.getLsbD 7
        p1.sweep.sweepPeriod := v.extractLsb 6 4
        p1.sweep.sweepNegate := v.getLsbD 3
        p1.sweep.sweepShift := v.extractLsb 2 0
        p1.sweep.sweepReset := true } ∧
    exec (.wr4005 v) s = .next
      { s with
        p2.sweep.sweepEnabled := v.getLsbD 7
        p2.sweep.sweepPeriod := v.extractLsb 6 4
        p2.sweep.sweepNegate := v.getLsbD 3
        p2.sweep.sweepShift := v.extractLsb 2 0
        p2.sweep.sweepReset := true }

/-- O16. For every byte v and every state the new period is {old[10:8], v} whichever branch of the source's protocol applies
(R31's corner case); timerCycle (decision D4) and every other field are unchanged. -/
def Obligations.TimerLowWriteKeepsHighBits : Prop :=
  ∀ (v : Byte) (s : State),
    exec (.wr4002 v) s = .next
      { s with p1.timer.timerPeriod := joinedPeriod (s.p1.timer.timerPeriod.toNat / 256) v.toNat } ∧
    exec (.wr4006 v) s = .next
      { s with p2.timer.timerPeriod := joinedPeriod (s.p2.timer.timerPeriod.toNat / 256) v.toNat } ∧
    exec (.wr400A v) s = .next
      { s with tri.timer.timerPeriod := joinedPeriod (s.tri.timer.timerPeriod.toNat / 256) v.toNat }

/-- O17. For every byte v and every state: lengthCounter becomes the length table's entry v[7:3], period bits 10:8 become
v[2:0] and bits 7:0 stay (decision D3), envelopeReset becomes 1, phase 0; every other field is unchanged. -/
def Obligations.PulseLengthWriteRestartsTheNote : Prop :=
  ∀ (v : Byte) (s : State),
    (∃ entry, s.tables.lengthTable[v.toNat / 8]? = some entry ∧
      exec (.wr4003 v) s = .next
        { s with
          p1.length.lengthCounter := entry
          p1.timer.timerPeriod := joinedPeriod (v.toNat % 8) (s.p1.timer.timerPeriod.toNat % 256)
          p1.envelope.envelopeReset := true
          p1.phase := 0 }) ∧
    (∃ entry, s.tables.lengthTable[v.toNat / 8]? = some entry ∧
      exec (.wr4007 v) s = .next
        { s with
          p2.length.lengthCounter := entry
          p2.timer.timerPeriod := joinedPeriod (v.toNat % 8) (s.p2.timer.timerPeriod.toNat % 256)
          p2.envelope.envelopeReset := true
          p2.phase := 0 })

/-- O18. From every state: a timer at 0 reloads its period and the phase advances by 1 mod 8; otherwise the timer counts down
by 1 and the phase stays; nothing else changes (the reading of underflow is decision D6). -/
def Obligations.PulseStepClocksTimerAndPhase : Prop :=
  ∀ s : State,
    exec .stepP1 s = .next
      { s with
        p1.timer := clockedTimer s.p1.timer
        p1.phase := BitVec.ofNat 3
          ((s.p1.phase.toNat + if s.p1.timer.timerCycle = 0 then 1 else 0) % 8) } ∧
    exec .stepP2 s = .next
      { s with
        p2.timer := clockedTimer s.p2.timer
        p2.phase := BitVec.ofNat 3
          ((s.p2.phase.toNat + if s.p2.timer.timerCycle = 0 then 1 else 0) % 8) }

/-- O19. From every state the envelope of the named channel becomes the one written field by field in quarteredEnvelope: the
pending flag is cleared; a restart gives volume 15; an underflow decrements the volume, or reloads 15 from 0 if the
loop flag is set; the divider reloads or counts down. Every other field is unchanged (underflow: decision D6). -/
def Obligations.QuarterFrameClocksTheEnvelope : Prop :=
  ∀ s : State,
    exec .qfP1 s = .next
      { s with p1.envelope := quarteredEnvelope s.p1.length.lengthCounterHalt s.p1.envelope } ∧
    exec .qfP2 s = .next
      { s with p2.envelope := quarteredEnvelope s.p2.length.lengthCounterHalt s.p2.envelope } ∧
    exec .qfNoi s = .next
      { s with noi.envelope := quarteredEnvelope s.noi.length.lengthCounterHalt s.noi.envelope }

/-- O20. From every state the pulse channel becomes the one written field by field in halvedPulse: the length counter loses 1
unless it is 0 or halted; sweepReset is cleared; the divider reloads or counts down; the period becomes the sweep
target exactly when no reload was pending, the divider underflowed, the sweep is enabled and the target is in 8..$7FF
(decisions D6, D10). -/
def Obligations.HalfFrameClocksLengthAndSweep : Prop :=
  ∀ s : State,
    exec .hfP1 s = .next { s with p1 := halvedPulse s.p1 } ∧
    exec .hfP2 s = .next { s with p2 := halvedPulse s.p2 }

/-- O21. For every pulse channel: shift 0 gives the period itself; otherwise the period shifted right (divided by a power of
two) is added, or subtracted with the bias negateMode when sweepNegate is set; the result lies in -1..$BFE (R51; the
bias is decision D10). -/
def Obligations.SweepTargetArithmetic : Prop :=
  ∀ p : Pulse,
    (p.sweep.sweepShift = 0 → sweepTarget p = p.timer.timerPeriod.toNat) ∧
    (p.sweep.sweepShift ≠ 0 → p.sweep.sweepNegate = false →
      sweepTarget p =
        (p.timer.timerPeriod.toNat + p.timer.timerPeriod.toNat / 2 ^ p.sweep.sweepShift.toNat : Nat)) ∧
    (p.sweep.sweepShift ≠ 0 → p.sweep.sweepNegate = true →
      sweepTarget p + (if p.negateMode then 1 else 0) +
        (p.timer.timerPeriod.toNat / 2 ^ p.sweep.sweepShift.toNat : Nat) = p.timer.timerPeriod.toNat) ∧
    -1 ≤ sweepTarget p ∧ sweepTarget p ≤ 0xBFE

/-- O22. From every state in which the channel's sweepShift is 0, or its sweepReset flag is set (the first half frame after a
sweep write), HF P1 and HF P2 complete and leave timerPeriod unchanged (R55(a), (b)). -/
def Obligations.SweepNeverMovesThePeriodWithoutShift : Prop :=
  ∀ s : State,
    (s.p1.sweep.sweepShift = 0 ∨ s.p1.sweep.sweepReset = true →
      ∃ t, exec .hfP1 s = .next t ∧ t.p1.timer.timerPeriod = s.p1.timer.timerPeriod) ∧
    (s.p2.sweep.sweepShift = 0 ∨ s.p2.sweep.sweepReset = true →
      ∃ t, exec .hfP2 s = .next t ∧ t.p2.timer.timerPeriod = s.p2.timer.timerPeriod)

/-- O23. From every state and for P1, P2, TRI, NOI: EN ch, 0 gives the state with that lengthCounter 0 and every other field
unchanged; EN ch, 1 gives the state itself. -/
def Obligations.EnableWordClearsOrKeepsTheLength : Prop :=
  ∀ s : State,
    exec (.enP1 false) s = .next { s with p1.length.lengthCounter := 0 } ∧ exec (.enP1 true) s = .next s ∧
    exec (.enP2 false) s = .next { s with p2.length.lengthCounter := 0 } ∧ exec (.enP2 true) s = .next s ∧
    exec (.enTri false) s = .next { s with tri.length.lengthCounter := 0 } ∧ exec (.enTri true) s = .next s ∧
    exec (.enNoi false) s = .next { s with noi.length.lengthCounter := 0 } ∧ exec (.enNoi true) s = .next s

/-- O24. For every byte v and every state: linearCounterMax takes v[6:0] and lengthCounterHalt (= linearCounterControl) v[7];
linearCounter, linearCounterReset and every other field are unchanged. -/
def Obligations.TriangleCounterWriteSetsItsFields : Prop :=
  ∀ (v : Byte) (s : State),
    exec (.wr4008 v) s = .next
      { s with
        tri.linear.linearCounterMax := v.extractLsb 6 0
        tri.length.lengthCounterHalt := v.getLsbD 7 }

/-- O25. From every state, a write of any byte to the unused registers $4009 and $400D (decision D20) and the quarter and half
frame of the DMC (decision D27) answer the state itself. -/
def Obligations.OperationsWithoutEffectChangeNothing : Prop :=
  ∀ (v : Byte) (s : State),
    exec (.wr4009 v) s = .next s ∧ exec (.wr400D v) s = .next s ∧
    exec .qfDmc s = .next s ∧ exec .hfDmc s = .next s

/-- O26. For every byte v and every state: lengthCounter becomes the length table's entry v[7:3], period bits 10:8 become
v[2:0] and bits 7:0 stay (decision D3), linearCounterReset becomes 1 (decision D12); phase, linearCounter and every
other field are unchanged. -/
def Obligations.TriangleLengthWriteTriggersTheReload : Prop :=
  ∀ (v : Byte) (s : State), ∃ entry, s.tables.lengthTable[v.toNat / 8]? = some entry ∧
    exec (.wr400B v) s = .next
      { s with
        tri.length.lengthCounter := entry
        tri.timer.timerPeriod := joinedPeriod (v.toNat % 8) (s.tri.timer.timerPeriod.toNat % 256)
        tri.linear.linearCounterReset := true }

/-- O27. From every state: the timer is clocked; the phase advances mod 32 exactly on a tick with both counters nonzero; with a
period of 2 or more lastOutput becomes the triangle sequence (0..15, 15..0) at the new phase, and otherwise stays;
nothing else changes (decisions D6, D13, D32). -/
def Obligations.TriangleStepMovesPhaseAndHold : Prop :=
  ∀ s : State, ∃ t, exec .stepTri s = .next t ∧
    t = { s with
          tri.timer := clockedTimer s.tri.timer
          tri.phase := t.tri.phase
          tri.lastOutput := t.tri.lastOutput } ∧
    (s.tri.timer.timerCycle = 0 ∧ s.tri.length.lengthCounter ≠ 0 ∧ s.tri.linear.linearCounter ≠ 0 →
      t.tri.phase.toNat = (s.tri.phase.toNat + 1) % 32) ∧
    (¬(s.tri.timer.timerCycle = 0 ∧ s.tri.length.lengthCounter ≠ 0 ∧ s.tri.linear.linearCounter ≠ 0) →
      t.tri.phase = s.tri.phase) ∧
    (2 ≤ s.tri.timer.timerPeriod.toNat →
      t.tri.lastOutput.toNat = min t.tri.phase.toNat (31 - t.tri.phase.toNat)) ∧
    (s.tri.timer.timerPeriod.toNat < 2 → t.tri.lastOutput = s.tri.lastOutput)

/-- O28. From every state: linearCounter becomes linearCounterMax if linearCounterReset is set, else loses 1 unless it is 0;
linearCounterReset stays set only if it was set and the control flag (lengthCounterHalt) is 1; every other field is
unchanged. -/
def Obligations.QuarterFrameClocksTheLinearCounter : Prop :=
  ∀ s : State,
    exec .qfTri s = .next
      { s with
        tri.linear.linearCounter :=
          if s.tri.linear.linearCounterReset then s.tri.linear.linearCounterMax
          else BitVec.ofNat 7 (s.tri.linear.linearCounter.toNat - 1)
        tri.linear.linearCounterReset :=
          if s.tri.length.lengthCounterHalt then s.tri.linear.linearCounterReset else false }

/-- O29. From every state the half frame of P1, P2, TRI and NOI completes and leaves the length counter written field by field
in halvedLength: one less, but not below 0 and not if the halt flag is set. For TRI and NOI every other field of the
state is unchanged. -/
def Obligations.HalfFrameCountsTheLengthDown : Prop :=
  ∀ s : State,
    exec .hfTri s = .next { s with tri.length := halvedLength s.tri.length } ∧
    exec .hfNoi s = .next { s with noi.length := halvedLength s.noi.length } ∧
    (∃ t, exec .hfP1 s = .next t ∧ t.p1.length = halvedLength s.p1.length) ∧
    (∃ t, exec .hfP2 s = .next t ∧ t.p2.length = halvedLength s.p2.length)

/-- O30. For every byte v and every state: WR $400C gives the state with envelopeEnabled v[4], lengthCounterHalt v[5],
constantVolume and envelopePeriod v[3:0] and every other field unchanged; WR $4000 and WR $4004 give the same values
to the envelope and length counter of P1 and P2 (and leave envelopeReset, envelopeCycle, envelopeVolume). -/
def Obligations.VolumeWriteDecodesItsByte : Prop :=
  ∀ (v : Byte) (s : State),
    exec (.wr400C v) s = .next
      { s with
        noi.envelope.envelopeEnabled := v.getLsbD 4
        noi.length.lengthCounterHalt := v.getLsbD 5
        noi.envelope.constantVolume := v.extractLsb 3 0
        noi.envelope.envelopePeriod := v.extractLsb 3 0 } ∧
    (∃ t, exec (.wr4000 v) s = .next t ∧
      t.p1.length = { s.p1.length with lengthCounterHalt := v.getLsbD 5 } ∧
      t.p1.envelope =
        { s.p1.envelope with
          envelopeEnabled := v.getLsbD 4
          constantVolume := v.extractLsb 3 0
          envelopePeriod := v.extractLsb 3 0 }) ∧
    (∃ t, exec (.wr4004 v) s = .next t ∧
      t.p2.length = { s.p2.length with lengthCounterHalt := v.getLsbD 5 } ∧
      t.p2.envelope =
        { s.p2.envelope with
          envelopeEnabled := v.getLsbD 4
          constantVolume := v.extractLsb 3 0
          envelopePeriod := v.extractLsb 3 0 })

/-- O31. For every byte v, all tables and every state: timerMode takes v[7] and timerPeriod the entry v[3:0] of the noise
period table (positions: decision D8; set directly: D5); every other field is unchanged. -/
def Obligations.NoisePeriodWriteSetsModeAndPeriod : Prop :=
  ∀ (v : Byte) (s : State), ∃ entry, s.tables.noisePeriodTable[v.toNat % 16]? = some entry ∧
    exec (.wr400E v) s = .next
      { s with
        noi.timerMode := decide (128 ≤ v.toNat)
        noi.timer.timerPeriod := entry }

/-- O32. For every byte v, all tables and every state: WR $400F gives the state with NOI's lengthCounter the table's entry
v[7:3], envelopeReset 1 and every other field unchanged; WR $4003, $4007 and $400B load the same entry into their
channel; WR $4003 and $4007 set envelopeReset too. -/
def Obligations.LengthIndexWriteLoadsTheTableEntry : Prop :=
  ∀ (v : Byte) (s : State), ∃ entry, s.tables.lengthTable[v.toNat / 8]? = some entry ∧
    exec (.wr400F v) s = .next
      { s with
        noi.length.lengthCounter := entry
        noi.envelope.envelopeReset := true } ∧
    (∃ t, exec (.wr4003 v) s = .next t ∧
      t.p1.length = { s.p1.length with lengthCounter := entry } ∧
      t.p1.envelope = { s.p1.envelope with envelopeReset := true }) ∧
    (∃ t, exec (.wr4007 v) s = .next t ∧
      t.p2.length = { s.p2.length with lengthCounter := entry } ∧
      t.p2.envelope = { s.p2.envelope with envelopeReset := true }) ∧
    (∃ t, exec (.wr400B v) s = .next t ∧
      t.tri.length = { s.tri.length with lengthCounter := entry })

/-- O33. From every state: on a tick the shift register becomes its half plus 2^14 times bit 0 XOR (bit 6 if timerMode, else
bit 1), otherwise it stays; the timer is clocked; nothing else changes (underflow: decision D6). -/
def Obligations.NoiseStepShiftsTheRegister : Prop :=
  ∀ s : State,
    exec .stepNoi s = .next
      { s with
        noi.timer := clockedTimer s.noi.timer
        noi.shiftRegister :=
          if s.noi.timer.timerCycle = 0 then
            BitVec.ofNat 15
              (s.noi.shiftRegister.toNat / 2 +
                if s.noi.shiftRegister.getLsbD 0 =
                    s.noi.shiftRegister.getLsbD (if s.noi.timerMode then 6 else 1) then 0 else 0x4000)
          else s.noi.shiftRegister }

/-- O34. For every byte v, all tables and every state: irqEnabled takes v[7], sampleLoop v[6], timerPeriod the entry v[3:0] of
the rate table (positions: decision D9); irq, timerCycle and every other field are unchanged. -/
def Obligations.DmcRateWriteSetsItsFields : Prop :=
  ∀ (v : Byte) (s : State), ∃ entry, s.tables.dmcRateTable[v.toNat % 16]? = some entry ∧
    exec (.wr4010 v) s = .next
      { s with
        dmc.irqEnabled := decide (128 ≤ v.toNat)
        dmc.sampleLoop := v.getLsbD 6
        dmc.timer.timerPeriod := entry }

/-- O35. For every byte v and every state: $4011 sets the level to v mod 128; $4012 sets only sampleAddress to $C000 + 64 v;
$4013 sets sampleLength and sampleLeft to 16 v + 1 and the cursor to sampleAddress (decisions D9, D14); the values are
exact, and nothing else changes. -/
def Obligations.DmcSampleWritesDecodeTheirByte : Prop :=
  ∀ (v : Byte) (s : State),
    (∃ level : BitVec 7, level.toNat = v.toNat % 128 ∧
      exec (.wr4011 v) s = .next { s with dmc.output := level }) ∧
    (∃ address : Addr, address.toNat = 0xC000 + 64 * v.toNat ∧
      exec (.wr4012 v) s = .next { s with dmc.sampleAddress := address }) ∧
    (∃ bytes : BitVec 12, bytes.toNat = 16 * v.toNat + 1 ∧
      exec (.wr4013 v) s = .next
        { s with
          dmc.sampleLength := bytes
          dmc.sampleIndex := s.dmc.sampleAddress
          dmc.sampleLeft := bytes })

/-- O36. From every state: if the buffer is EMPTY and sampleLeft > 0, one Fetch at the cursor is emitted, one bus answer is
taken, and: before the last byte the cursor moves ($FFFF to $8000) and sampleLeft drops by 1; at the last byte of a
looping sample cursor and count restart; at the last byte otherwise sampleLeft is 0 and irq is latched if enabled. If
no fetch is due, events, bus, cursor, count and irq stay (decisions D15, D17, D30). -/
def Obligations.DmcStepFetchesWhenTheBufferIsEmpty : Prop :=
  ∀ s : State, ∃ t, exec .stepDmc s = .next t ∧
    (fetchDue s.dmc →
      t.events = s.events ++ [.fetch s.dmc.sampleIndex] ∧ t.busAnswers = s.busAnswers.tail ∧
      t.busReads = s.busReads + 1 ∧
      (s.dmc.sampleLeft ≠ 1 →
        t.dmc.sampleIndex = (if s.dmc.sampleIndex = 0xFFFF then 0x8000 else s.dmc.sampleIndex + 1) ∧
        t.dmc.sampleLeft.toNat + 1 = s.dmc.sampleLeft.toNat ∧ t.dmc.irq = s.dmc.irq) ∧
      (s.dmc.sampleLeft = 1 → s.dmc.sampleLoop = true →
        t.dmc.sampleIndex = s.dmc.sampleAddress ∧ t.dmc.sampleLeft = s.dmc.sampleLength ∧
        t.dmc.irq = s.dmc.irq) ∧
      (s.dmc.sampleLeft = 1 → s.dmc.sampleLoop = false →
        t.dmc.sampleIndex = (if s.dmc.sampleIndex = 0xFFFF then 0x8000 else s.dmc.sampleIndex + 1) ∧
        t.dmc.sampleLeft = 0 ∧ t.dmc.irq = (s.dmc.irq || s.dmc.irqEnabled))) ∧
    (¬fetchDue s.dmc →
      t.events = s.events ∧ t.busAnswers = s.busAnswers ∧ t.busReads = s.busReads ∧
      t.dmc.sampleIndex = s.dmc.sampleIndex ∧ t.dmc.sampleLeft = s.dmc.sampleLeft ∧
      t.dmc.irq = s.dmc.irq)

/-- O37. From every state: the timer is clocked; without a tick level, shift register and bit count stay and the buffer is what
the reader left; on a tick the level moves by 2 with bit 0 if a bit remains, saturating at 127 and 0; when at most one
bit remained and the buffer (after the reader) holds a byte, that byte enters with 8 bits and the buffer is EMPTY;
otherwise the register shifts and the count drops, not below 0 (decisions D15, D16). -/
def Obligations.DmcStepPlaysOneBitPerTick : Prop :=
  ∀ s : State, ∃ t, exec .stepDmc s = .next t ∧ t.dmc.timer = clockedTimer s.dmc.timer ∧
    (s.dmc.timer.timerCycle ≠ 0 →
      t.dmc.output = s.dmc.output ∧ t.dmc.shiftRegister = s.dmc.shiftRegister ∧
      t.dmc.shiftRegisterBits = s.dmc.shiftRegisterBits ∧ t.dmc.sampleBuffer = bufferAfterReader s) ∧
    (s.dmc.timer.timerCycle = 0 →
      t.dmc.output.toNat =
        (if s.dmc.shiftRegisterBits = 0 then s.dmc.output.toNat
         else if s.dmc.shiftRegister.getLsbD 0 then min 127 (s.dmc.output.toNat + 2)
         else s.dmc.output.toNat - 2) ∧
      (∀ b, bufferAfterReader s = some b → s.dmc.shiftRegisterBits.toNat ≤ 1 →
        t.dmc.shiftRegister = b ∧ t.dmc.shiftRegisterBits = 8 ∧ t.dmc.sampleBuffer = none) ∧
      (bufferAfterReader s = none ∨ 1 < s.dmc.shiftRegisterBits.toNat →
        t.dmc.shiftRegister.toNat =
          (if s.dmc.shiftRegisterBits = 0 then s.dmc.shiftRegister.toNat
           else s.dmc.shiftRegister.toNat / 2) ∧
        t.dmc.shiftRegisterBits.toNat = s.dmc.shiftRegisterBits.toNat - 1 ∧
        t.dmc.sampleBuffer = bufferAfterReader s))

/-- O38. From every state STEP DMC completes and leaves the other channels, tables, script, position and results, and of the
DMC irqEnabled, sampleLoop, sampleAddress, sampleLength and timerPeriod, as they were. -/
def Obligations.DmcStepTouchesOnlyThePlayback : Prop :=
  ∀ s : State, ∃ t, exec .stepDmc s = .next t ∧
    t = { s with
          dmc := t.dmc
          events := t.events
          busAnswers := t.busAnswers
          busReads := t.busReads } ∧
    t.dmc.irqEnabled = s.dmc.irqEnabled ∧ t.dmc.sampleLoop = s.dmc.sampleLoop ∧
    t.dmc.sampleAddress = s.dmc.sampleAddress ∧ t.dmc.sampleLength = s.dmc.sampleLength ∧
    t.dmc.timer.timerPeriod = s.dmc.timer.timerPeriod

/-- O39. From every state ACK DMC gives the state with irq 0 and every other field unchanged. That the acknowledge is an
operation of the block that clears the latch is decision D26 (log entry 21). -/
def Obligations.AcknowledgeClearsOnlyTheLatch : Prop :=
  ∀ s : State, exec .ackDmc s = .next { s with dmc.irq := false }

/-- O40. For every operation and every state: if irq falls, the operation was ACK DMC or RST DMC; if irq rises, it was STEP DMC
with the buffer EMPTY, exactly one byte left, sampleLoop 0 and irqEnabled 1 (R115, R129, with C3 and C8). -/
def Obligations.IrqLatchChangesOnlyWhereTheSpecSays : Prop :=
  ∀ (i : Instr) (s t : State), exec i s = .next t →
    (s.dmc.irq = true → t.dmc.irq = false → i = .ackDmc ∨ i = .rstDmc) ∧
    (s.dmc.irq = false → t.dmc.irq = true →
      i = .stepDmc ∧ s.dmc.sampleBuffer = none ∧ s.dmc.sampleLeft = 1 ∧
      s.dmc.sampleLoop = false ∧ s.dmc.irqEnabled = true)

/-- O41. For every operation in every state that meets R14: the event record stays and no bus answer is taken, or the operation
is STEP DMC, exactly one Fetch at an address of $8000 or more joins the record and exactly one read is counted (R19). -/
def Obligations.OnlyDmcStepReadsTheBus : Prop :=
  ∀ (i : Instr) (s t : State), s.Inv → exec i s = .next t →
    (t.events = s.events ∧ t.busAnswers = s.busAnswers ∧ t.busReads = s.busReads) ∨
    (i = .stepDmc ∧ t.busReads = s.busReads + 1 ∧
      ∃ a : Addr, 0x8000 ≤ a.toNat ∧ t.events = s.events ++ [.fetch a])

/-- O42. From every state and for all tables: the returned value is 0 if lengthCounter is 0, the sweep target is below 8 or
above $7FF (decision D11), or the entry phase of row duty of the duty table is 0; otherwise it is constantVolume or
envelopeVolume as envelopeEnabled says. Nothing else changes. -/
def Obligations.PulseOutputObserved : Prop :=
  ∀ s : State,
    (∃ row step, s.tables.dutyTable[s.p1.duty.toNat]? = some row ∧ row[s.p1.phase.toNat]? = some step ∧
      exec .outP1 s = .next
        { s with results := s.results ++
          [if s.p1.length.lengthCounter = 0 ∨ sweepTarget s.p1 < 8 ∨ 0x7FF < sweepTarget s.p1 ∨
              step = false then 0
           else if s.p1.envelope.envelopeEnabled then s.p1.envelope.constantVolume.toNat
           else s.p1.envelope.envelopeVolume.toNat] }) ∧
    (∃ row step, s.tables.dutyTable[s.p2.duty.toNat]? = some row ∧ row[s.p2.phase.toNat]? = some step ∧
      exec .outP2 s = .next
        { s with results := s.results ++
          [if s.p2.length.lengthCounter = 0 ∨ sweepTarget s.p2 < 8 ∨ 0x7FF < sweepTarget s.p2 ∨
              step = false then 0
           else if s.p2.envelope.envelopeEnabled then s.p2.envelope.constantVolume.toNat
           else s.p2.envelope.envelopeVolume.toNat] })

/-- O43. From every state: 0 if the length or the linear counter is 0; else lastOutput if the period is below 2; else phase for
phases 0..15 and 31 - phase above (decisions D13, D32). Nothing else changes. -/
def Obligations.TriangleOutputObserved : Prop :=
  ∀ s : State,
    exec .outTri s = .next
      { s with results := s.results ++
        [if s.tri.length.lengthCounter = 0 ∨ s.tri.linear.linearCounter = 0 then 0
         else if s.tri.timer.timerPeriod.toNat < 2 then s.tri.lastOutput.toNat
         else min s.tri.phase.toNat (31 - s.tri.phase.toNat)] }

/-- O44. From every state OUT NOI and OUT DMC complete, return these values and change nothing else. -/
def Obligations.NoiseAndDmcOutputObserved : Prop :=
  ∀ s : State,
    exec .outNoi s = .next
      { s with results := s.results ++
        [if s.noi.shiftRegister.toNat % 2 = 1 ∨ s.noi.length.lengthCounter = 0 then 0
         else if s.noi.envelope.envelopeEnabled then s.noi.envelope.constantVolume.toNat
         else s.noi.envelope.envelopeVolume.toNat] } ∧
    exec .outDmc s = .next { s with results := s.results ++ [s.dmc.output.toNat] }

/-- O45. From every state and for P1, P2, TRI, NOI: both words complete, return these values and change nothing else. -/
def Obligations.LengthPortsObserved : Prop :=
  ∀ s : State,
    exec .lenP1 s = .next { s with results := s.results ++ [s.p1.length.lengthCounter.toNat] } ∧
    exec .lenP2 s = .next { s with results := s.results ++ [s.p2.length.lengthCounter.toNat] } ∧
    exec .lenTri s = .next { s with results := s.results ++ [s.tri.length.lengthCounter.toNat] } ∧
    exec .lenNoi s = .next { s with results := s.results ++ [s.noi.length.lengthCounter.toNat] } ∧
    exec .enqP1 s = .next
      { s with results := s.results ++ [if 0 < s.p1.length.lengthCounter.toNat then 1 else 0] } ∧
    exec .enqP2 s = .next
      { s with results := s.results ++ [if 0 < s.p2.length.lengthCounter.toNat then 1 else 0] } ∧
    exec .enqTri s = .next
      { s with results := s.results ++ [if 0 < s.tri.length.lengthCounter.toNat then 1 else 0] } ∧
    exec .enqNoi s = .next
      { s with results := s.results ++ [if 0 < s.noi.length.lengthCounter.toNat then 1 else 0] }

/-- O46. From every state and for P1, P2, NOI: the word completes, returns this value and changes nothing else. -/
def Obligations.VolumePortsObserved : Prop :=
  ∀ s : State,
    exec .volP1 s = .next
      { s with results := s.results ++
        [if s.p1.envelope.envelopeEnabled then s.p1.envelope.constantVolume.toNat
         else s.p1.envelope.envelopeVolume.toNat] } ∧
    exec .volP2 s = .next
      { s with results := s.results ++
        [if s.p2.envelope.envelopeEnabled then s.p2.envelope.constantVolume.toNat
         else s.p2.envelope.envelopeVolume.toNat] } ∧
    exec .volNoi s = .next
      { s with results := s.results ++
        [if s.noi.envelope.envelopeEnabled then s.noi.envelope.constantVolume.toNat
         else s.noi.envelope.envelopeVolume.toNat] }

/-- O47. From every state IRQ DMC completes, returns 1 if irq is set and 0 otherwise, and changes nothing else: the read is no
acknowledge (decision D26). -/
def Obligations.IrqPortReadsWithoutAcknowledging : Prop :=
  ∀ s : State, exec .irqDmc s = .next { s with results := s.results ++ [if s.dmc.irq then 1 else 0] }

/-- O48. From every state there are values a to e that the five OUT words return, and MIX returns a + b + c + d + e, which is
at most 187 (decision D24: equal weights). -/
def Obligations.MixIsTheSumOfTheOutputs : Prop :=
  ∀ s : State, ∃ a b c d e : Nat,
    exec .outP1 s = .next { s with results := s.results ++ [a] } ∧
    exec .outP2 s = .next { s with results := s.results ++ [b] } ∧
    exec .outTri s = .next { s with results := s.results ++ [c] } ∧
    exec .outNoi s = .next { s with results := s.results ++ [d] } ∧
    exec .outDmc s = .next { s with results := s.results ++ [e] } ∧
    exec .mix s = .next { s with results := s.results ++ [a + b + c + d + e] } ∧
    a + b + c + d + e ≤ 187

/-- O49. For every word of kind 7 or 8 and every state, exec answers the state with one value appended to what the driver was
returned; every field of the block and the event record are unchanged (R106). -/
def Obligations.ObservationsArePure : Prop :=
  ∀ (i : Instr) (s : State), isObservation i = true →
    ∃ n, exec i s = .next { s with results := s.results ++ [n] }

/-- O50. For every operation and every state: each channel the operation does not name is unchanged, and unless it names the
DMC the event record and the bus side are unchanged (R1, R20, R71). -/
def Obligations.ChannelsAreIsolated : Prop :=
  ∀ (i : Instr) (s t : State), exec i s = .next t →
    (operationChannel i ≠ some .p1 → t.p1 = s.p1) ∧
    (operationChannel i ≠ some .p2 → t.p2 = s.p2) ∧
    (operationChannel i ≠ some .tri → t.tri = s.tri) ∧
    (operationChannel i ≠ some .noi → t.noi = s.noi) ∧
    (operationChannel i ≠ some .dmc →
      t.dmc = s.dmc ∧ t.events = s.events ∧ t.busAnswers = s.busAnswers ∧ t.busReads = s.busReads)

/-- O51. For all operations i and j that name different channels and every state, i then j and j then i both complete, and the
two results agree in every channel, the tables, the events, the script and the bus (R20); only the order of returned
values may differ. -/
def Obligations.DifferentChannelsCommute : Prop :=
  ∀ (i j : Instr) (c d : Channel) (s : State),
    operationChannel i = some c → operationChannel j = some d → c ≠ d →
    ∃ t t', applyAll [i, j] s = .next t ∧ applyAll [j, i] s = .next t' ∧ sameButResults t t'

/-- O52. For every operation and every state with State.Inv, exec answers a next state, and it has State.Inv (R112 with R14;
the admissible tables are R2 and R5). -/
def Obligations.EveryOperationCompletesAndKeepsTheInvariant : Prop :=
  ∀ (i : Instr) (s : State), s.Inv → ∃ t, exec i s = .next t ∧ t.Inv

/-- O53. For all states s and t: if s meets State.Inv and step s answers next t, then t meets State.Inv. -/
def Obligations.StepKeepsTheInvariant : Prop :=
  ∀ s t : State, s.Inv → step s = .next t → t.Inv

/-- O54. For every operation and every state, each channel's new timerCycle is at most the maximum of its old timerCycle and
its old timerPeriod: it never exceeds the largest value it was reloaded with (R14(c)). -/
def Obligations.TimerCyclesStayWithinTheirReloads : Prop :=
  ∀ (i : Instr) (s t : State), exec i s = .next t →
    t.p1.timer.timerCycle.toNat ≤ max s.p1.timer.timerCycle.toNat s.p1.timer.timerPeriod.toNat ∧
    t.p2.timer.timerCycle.toNat ≤ max s.p2.timer.timerCycle.toNat s.p2.timer.timerPeriod.toNat ∧
    t.tri.timer.timerCycle.toNat ≤ max s.tri.timer.timerCycle.toNat s.tri.timer.timerPeriod.toNat ∧
    t.noi.timer.timerCycle.toNat ≤ max s.noi.timer.timerCycle.toNat s.noi.timer.timerPeriod.toNat ∧
    t.dmc.timer.timerCycle.toNat ≤ max s.dmc.timer.timerCycle.toNat s.dmc.timer.timerPeriod.toNat

/-- O55. From every state whose P1 timerCycle is at most its period P, 8 (P + 1) STEPs of P1 give back the very same state, and
likewise P2; from every state whose triangle has a period P of 2 or more, a timerCycle of at most P, both counters
nonzero and lastOutput at the sequence's value, 32 (P + 1) STEPs of TRI give back the very same state (R36, R82(a),
R131). -/
def Obligations.WaveformsRepeat : Prop :=
  (∀ s : State, s.p1.timer.timerCycle.toNat ≤ s.p1.timer.timerPeriod.toNat →
    applyTimes (8 * (s.p1.timer.timerPeriod.toNat + 1)) .stepP1 s = .next s) ∧
  (∀ s : State, s.p2.timer.timerCycle.toNat ≤ s.p2.timer.timerPeriod.toNat →
    applyTimes (8 * (s.p2.timer.timerPeriod.toNat + 1)) .stepP2 s = .next s) ∧
  (∀ s : State, 2 ≤ s.tri.timer.timerPeriod.toNat →
    s.tri.timer.timerCycle.toNat ≤ s.tri.timer.timerPeriod.toNat →
    s.tri.length.lengthCounter ≠ 0 → s.tri.linear.linearCounter ≠ 0 →
    s.tri.lastOutput = triSequence s.tri.phase →
    applyTimes (32 * (s.tri.timer.timerPeriod.toNat + 1)) .stepTri s = .next s)

/-- O56. For P1, P2 and NOI, every state with the channel's envelopeReset set and envelope period P, and every k: the consuming
quarter frame and k more leave envelopeVolume 15 - k/(P + 1), not below 0, if the loop flag is 0 (so 0 for every k of
at least 15 (P + 1)), and 15 - (k/(P + 1) mod 16) if it is 1 (so 15 again at k = 16 (P + 1), and repeating). This is
R49, with the underflow of decision D6. -/
def Obligations.EnvelopeDecayLaw : Prop :=
  ∀ (s : State) (k : Nat),
    (s.p1.envelope.envelopeReset = true →
      ∃ t, applyTimes (1 + k) .qfP1 s = .next t ∧
        t.p1.envelope.envelopeVolume.toNat =
          if s.p1.length.lengthCounterHalt then 15 - k / (s.p1.envelope.envelopePeriod.toNat + 1) % 16
          else 15 - k / (s.p1.envelope.envelopePeriod.toNat + 1)) ∧
    (s.p2.envelope.envelopeReset = true →
      ∃ t, applyTimes (1 + k) .qfP2 s = .next t ∧
        t.p2.envelope.envelopeVolume.toNat =
          if s.p2.length.lengthCounterHalt then 15 - k / (s.p2.envelope.envelopePeriod.toNat + 1) % 16
          else 15 - k / (s.p2.envelope.envelopePeriod.toNat + 1)) ∧
    (s.noi.envelope.envelopeReset = true →
      ∃ t, applyTimes (1 + k) .qfNoi s = .next t ∧
        t.noi.envelope.envelopeVolume.toNat =
          if s.noi.length.lengthCounterHalt then 15 - k / (s.noi.envelope.envelopePeriod.toNat + 1) % 16
          else 15 - k / (s.noi.envelope.envelopePeriod.toNat + 1))

/-- O57. From every state with linearCounterReset set: one quarter frame and k more leave linearCounter at linearCounterMax - k
(not below 0) and the flag clear if the control flag is 0, and at linearCounterMax with the flag still set if it is 1
(R82(b), (c)). -/
def Obligations.LinearCounterDepletesOrReloads : Prop :=
  ∀ (s : State) (k : Nat), s.tri.linear.linearCounterReset = true →
    ∃ t, applyTimes (k + 1) .qfTri s = .next t ∧
      (s.tri.length.lengthCounterHalt = false →
        t.tri.linear.linearCounter.toNat = s.tri.linear.linearCounterMax.toNat - k ∧
        t.tri.linear.linearCounterReset = false) ∧
      (s.tri.length.lengthCounterHalt = true →
        t.tri.linear.linearCounter = s.tri.linear.linearCounterMax ∧
        t.tri.linear.linearCounterReset = true)

/-- O58. From every state and for every n: after n half frames of the channel the length counter is its old value minus n (not
below 0) if the halt flag is 0, and unchanged if it is 1 (R131, R41). -/
def Obligations.LengthCounterSilencesAfterItsCount : Prop :=
  ∀ (s : State) (n : Nat),
    (∃ t, applyTimes n .hfP1 s = .next t ∧ t.p1.length.lengthCounter.toNat =
      s.p1.length.lengthCounter.toNat - (if s.p1.length.lengthCounterHalt then 0 else n)) ∧
    (∃ t, applyTimes n .hfP2 s = .next t ∧ t.p2.length.lengthCounter.toNat =
      s.p2.length.lengthCounter.toNat - (if s.p2.length.lengthCounterHalt then 0 else n)) ∧
    (∃ t, applyTimes n .hfTri s = .next t ∧ t.tri.length.lengthCounter.toNat =
      s.tri.length.lengthCounter.toNat - (if s.tri.length.lengthCounterHalt then 0 else n)) ∧
    (∃ t, applyTimes n .hfNoi s = .next t ∧ t.noi.length.lengthCounter.toNat =
      s.noi.length.lengthCounter.toNat - (if s.noi.length.lengthCounterHalt then 0 else n))

/-- O59. From every state and for all bytes lo and hi: writing offset 2 and then offset 3, or the other way round, completes
and leaves timerPeriod at {hi[2:0], lo} (R127; the high write is decision D3). -/
def Obligations.PeriodWritesGiveTheSamePeriodInEitherOrder : Prop :=
  ∀ (lo hi : Byte) (s : State),
    (∃ t t', applyAll [.wr4002 lo, .wr4003 hi] s = .next t ∧ applyAll [.wr4003 hi, .wr4002 lo] s = .next t' ∧
      t.p1.timer.timerPeriod = joinedPeriod (hi.toNat % 8) lo.toNat ∧
      t'.p1.timer.timerPeriod = joinedPeriod (hi.toNat % 8) lo.toNat) ∧
    (∃ t t', applyAll [.wr4006 lo, .wr4007 hi] s = .next t ∧ applyAll [.wr4007 hi, .wr4006 lo] s = .next t' ∧
      t.p2.timer.timerPeriod = joinedPeriod (hi.toNat % 8) lo.toNat ∧
      t'.p2.timer.timerPeriod = joinedPeriod (hi.toNat % 8) lo.toNat) ∧
    (∃ t t', applyAll [.wr400A lo, .wr400B hi] s = .next t ∧ applyAll [.wr400B hi, .wr400A lo] s = .next t' ∧
      t.tri.timer.timerPeriod = joinedPeriod (hi.toNat % 8) lo.toNat ∧
      t'.tri.timer.timerPeriod = joinedPeriod (hi.toNat % 8) lo.toNat)

/-- O60. From every state both orders of the two hooks complete in the same state (R130). -/
def Obligations.HooksOfOneChannelCommute : Prop :=
  ∀ s : State,
    bothOrdersAgree .qfP1 .hfP1 s ∧ bothOrdersAgree .qfP2 .hfP2 s ∧ bothOrdersAgree .qfTri .hfTri s ∧
    bothOrdersAgree .qfNoi .hfNoi s ∧ bothOrdersAgree .qfDmc .hfDmc s ∧
    bothOrdersAgree .stepP1 .qfP1 s ∧ bothOrdersAgree .stepP2 .qfP2 s ∧
    bothOrdersAgree .stepNoi .qfNoi s ∧ bothOrdersAgree .stepNoi .hfNoi s ∧
    bothOrdersAgree .stepDmc .qfDmc s ∧ bothOrdersAgree .stepDmc .hfDmc s
end

