-- ==== Sys2Proof/Laws/State.lean ====
section
/-! SUPPORT. One lemma per field of the state and update of it, so that no proof unfolds a record update. -/

namespace Sys2Proof.Machine

variable (s : State)

@[simp] theorem State.setP1_p1 (c : Pulse) : (s.setP1 c).p1 = c := rfl
@[simp] theorem State.setP1_p2 (c : Pulse) : (s.setP1 c).p2 = s.p2 := rfl
@[simp] theorem State.setP1_tri (c : Pulse) : (s.setP1 c).tri = s.tri := rfl
@[simp] theorem State.setP1_noi (c : Pulse) : (s.setP1 c).noi = s.noi := rfl
@[simp] theorem State.setP1_dmc (c : Pulse) : (s.setP1 c).dmc = s.dmc := rfl
@[simp] theorem State.setP1_tables (c : Pulse) : (s.setP1 c).tables = s.tables := rfl
@[simp] theorem State.setP1_events (c : Pulse) : (s.setP1 c).events = s.events := rfl
@[simp] theorem State.setP1_script (c : Pulse) : (s.setP1 c).script = s.script := rfl
@[simp] theorem State.setP1_position (c : Pulse) : (s.setP1 c).position = s.position := rfl
@[simp] theorem State.setP1_busAnswers (c : Pulse) : (s.setP1 c).busAnswers = s.busAnswers := rfl
@[simp] theorem State.setP1_busReads (c : Pulse) : (s.setP1 c).busReads = s.busReads := rfl
@[simp] theorem State.setP1_results (c : Pulse) : (s.setP1 c).results = s.results := rfl

@[simp] theorem State.setP2_p1 (c : Pulse) : (s.setP2 c).p1 = s.p1 := rfl
@[simp] theorem State.setP2_p2 (c : Pulse) : (s.setP2 c).p2 = c := rfl
@[simp] theorem State.setP2_tri (c : Pulse) : (s.setP2 c).tri = s.tri := rfl
@[simp] theorem State.setP2_noi (c : Pulse) : (s.setP2 c).noi = s.noi := rfl
@[simp] theorem State.setP2_dmc (c : Pulse) : (s.setP2 c).dmc = s.dmc := rfl
@[simp] theorem State.setP2_tables (c : Pulse) : (s.setP2 c).tables = s.tables := rfl
@[simp] theorem State.setP2_events (c : Pulse) : (s.setP2 c).events = s.events := rfl
@[simp] theorem State.setP2_script (c : Pulse) : (s.setP2 c).script = s.script := rfl
@[simp] theorem State.setP2_position (c : Pulse) : (s.setP2 c).position = s.position := rfl
@[simp] theorem State.setP2_busAnswers (c : Pulse) : (s.setP2 c).busAnswers = s.busAnswers := rfl
@[simp] theorem State.setP2_busReads (c : Pulse) : (s.setP2 c).busReads = s.busReads := rfl
@[simp] theorem State.setP2_results (c : Pulse) : (s.setP2 c).results = s.results := rfl

@[simp] theorem State.setTri_p1 (c : Triangle) : (s.setTri c).p1 = s.p1 := rfl
@[simp] theorem State.setTri_p2 (c : Triangle) : (s.setTri c).p2 = s.p2 := rfl
@[simp] theorem State.setTri_tri (c : Triangle) : (s.setTri c).tri = c := rfl
@[simp] theorem State.setTri_noi (c : Triangle) : (s.setTri c).noi = s.noi := rfl
@[simp] theorem State.setTri_dmc (c : Triangle) : (s.setTri c).dmc = s.dmc := rfl
@[simp] theorem State.setTri_tables (c : Triangle) : (s.setTri c).tables = s.tables := rfl
@[simp] theorem State.setTri_events (c : Triangle) : (s.setTri c).events = s.events := rfl
@[simp] theorem State.setTri_script (c : Triangle) : (s.setTri c).script = s.script := rfl
@[simp] theorem State.setTri_position (c : Triangle) : (s.setTri c).position = s.position := rfl
@[simp] theorem State.setTri_busAnswers (c : Triangle) : (s.setTri c).busAnswers = s.busAnswers := rfl
@[simp] theorem State.setTri_busReads (c : Triangle) : (s.setTri c).busReads = s.busReads := rfl
@[simp] theorem State.setTri_results (c : Triangle) : (s.setTri c).results = s.results := rfl

@[simp] theorem State.setNoi_p1 (c : Noise) : (s.setNoi c).p1 = s.p1 := rfl
@[simp] theorem State.setNoi_p2 (c : Noise) : (s.setNoi c).p2 = s.p2 := rfl
@[simp] theorem State.setNoi_tri (c : Noise) : (s.setNoi c).tri = s.tri := rfl
@[simp] theorem State.setNoi_noi (c : Noise) : (s.setNoi c).noi = c := rfl
@[simp] theorem State.setNoi_dmc (c : Noise) : (s.setNoi c).dmc = s.dmc := rfl
@[simp] theorem State.setNoi_tables (c : Noise) : (s.setNoi c).tables = s.tables := rfl
@[simp] theorem State.setNoi_events (c : Noise) : (s.setNoi c).events = s.events := rfl
@[simp] theorem State.setNoi_script (c : Noise) : (s.setNoi c).script = s.script := rfl
@[simp] theorem State.setNoi_position (c : Noise) : (s.setNoi c).position = s.position := rfl
@[simp] theorem State.setNoi_busAnswers (c : Noise) : (s.setNoi c).busAnswers = s.busAnswers := rfl
@[simp] theorem State.setNoi_busReads (c : Noise) : (s.setNoi c).busReads = s.busReads := rfl
@[simp] theorem State.setNoi_results (c : Noise) : (s.setNoi c).results = s.results := rfl

@[simp] theorem State.setDmc_p1 (c : Dmc) : (s.setDmc c).p1 = s.p1 := rfl
@[simp] theorem State.setDmc_p2 (c : Dmc) : (s.setDmc c).p2 = s.p2 := rfl
@[simp] theorem State.setDmc_tri (c : Dmc) : (s.setDmc c).tri = s.tri := rfl
@[simp] theorem State.setDmc_noi (c : Dmc) : (s.setDmc c).noi = s.noi := rfl
@[simp] theorem State.setDmc_dmc (c : Dmc) : (s.setDmc c).dmc = c := rfl
@[simp] theorem State.setDmc_tables (c : Dmc) : (s.setDmc c).tables = s.tables := rfl
@[simp] theorem State.setDmc_events (c : Dmc) : (s.setDmc c).events = s.events := rfl
@[simp] theorem State.setDmc_script (c : Dmc) : (s.setDmc c).script = s.script := rfl
@[simp] theorem State.setDmc_position (c : Dmc) : (s.setDmc c).position = s.position := rfl
@[simp] theorem State.setDmc_busAnswers (c : Dmc) : (s.setDmc c).busAnswers = s.busAnswers := rfl
@[simp] theorem State.setDmc_busReads (c : Dmc) : (s.setDmc c).busReads = s.busReads := rfl
@[simp] theorem State.setDmc_results (c : Dmc) : (s.setDmc c).results = s.results := rfl

@[simp] theorem State.emit_p1 (e : Event) : (s.emit e).p1 = s.p1 := rfl
@[simp] theorem State.emit_p2 (e : Event) : (s.emit e).p2 = s.p2 := rfl
@[simp] theorem State.emit_tri (e : Event) : (s.emit e).tri = s.tri := rfl
@[simp] theorem State.emit_noi (e : Event) : (s.emit e).noi = s.noi := rfl
@[simp] theorem State.emit_dmc (e : Event) : (s.emit e).dmc = s.dmc := rfl
@[simp] theorem State.emit_tables (e : Event) : (s.emit e).tables = s.tables := rfl
@[simp] theorem State.emit_events (e : Event) : (s.emit e).events = s.events ++ [e] := rfl
@[simp] theorem State.emit_script (e : Event) : (s.emit e).script = s.script := rfl
@[simp] theorem State.emit_position (e : Event) : (s.emit e).position = s.position := rfl
@[simp] theorem State.emit_busAnswers (e : Event) : (s.emit e).busAnswers = s.busAnswers := rfl
@[simp] theorem State.emit_busReads (e : Event) : (s.emit e).busReads = s.busReads := rfl
@[simp] theorem State.emit_results (e : Event) : (s.emit e).results = s.results := rfl

@[simp] theorem State.observe_p1 (n : Nat) : (s.observe n).p1 = s.p1 := rfl
@[simp] theorem State.observe_p2 (n : Nat) : (s.observe n).p2 = s.p2 := rfl
@[simp] theorem State.observe_tri (n : Nat) : (s.observe n).tri = s.tri := rfl
@[simp] theorem State.observe_noi (n : Nat) : (s.observe n).noi = s.noi := rfl
@[simp] theorem State.observe_dmc (n : Nat) : (s.observe n).dmc = s.dmc := rfl
@[simp] theorem State.observe_tables (n : Nat) : (s.observe n).tables = s.tables := rfl
@[simp] theorem State.observe_events (n : Nat) : (s.observe n).events = s.events := rfl
@[simp] theorem State.observe_script (n : Nat) : (s.observe n).script = s.script := rfl
@[simp] theorem State.observe_position (n : Nat) : (s.observe n).position = s.position := rfl
@[simp] theorem State.observe_busAnswers (n : Nat) : (s.observe n).busAnswers = s.busAnswers := rfl
@[simp] theorem State.observe_busReads (n : Nat) : (s.observe n).busReads = s.busReads := rfl
@[simp] theorem State.observe_results (n : Nat) : (s.observe n).results = s.results ++ [n] := rfl

@[simp] theorem State.advance_p1 : (s.advance).p1 = s.p1 := rfl
@[simp] theorem State.advance_p2 : (s.advance).p2 = s.p2 := rfl
@[simp] theorem State.advance_tri : (s.advance).tri = s.tri := rfl
@[simp] theorem State.advance_noi : (s.advance).noi = s.noi := rfl
@[simp] theorem State.advance_dmc : (s.advance).dmc = s.dmc := rfl
@[simp] theorem State.advance_tables : (s.advance).tables = s.tables := rfl
@[simp] theorem State.advance_events : (s.advance).events = s.events := rfl
@[simp] theorem State.advance_script : (s.advance).script = s.script := rfl
@[simp] theorem State.advance_position : (s.advance).position = s.position + 1 := rfl
@[simp] theorem State.advance_busAnswers : (s.advance).busAnswers = s.busAnswers := rfl
@[simp] theorem State.advance_busReads : (s.advance).busReads = s.busReads := rfl
@[simp] theorem State.advance_results : (s.advance).results = s.results := rfl

@[simp] theorem State.busTaken_p1 : (s.busTaken).p1 = s.p1 := rfl
@[simp] theorem State.busTaken_p2 : (s.busTaken).p2 = s.p2 := rfl
@[simp] theorem State.busTaken_tri : (s.busTaken).tri = s.tri := rfl
@[simp] theorem State.busTaken_noi : (s.busTaken).noi = s.noi := rfl
@[simp] theorem State.busTaken_dmc : (s.busTaken).dmc = s.dmc := rfl
@[simp] theorem State.busTaken_tables : (s.busTaken).tables = s.tables := rfl
@[simp] theorem State.busTaken_events : (s.busTaken).events = s.events := rfl
@[simp] theorem State.busTaken_script : (s.busTaken).script = s.script := rfl
@[simp] theorem State.busTaken_position : (s.busTaken).position = s.position := rfl
@[simp] theorem State.busTaken_busAnswers : (s.busTaken).busAnswers = s.busAnswers.tail := rfl
@[simp] theorem State.busTaken_busReads : (s.busTaken).busReads = s.busReads + 1 := rfl
@[simp] theorem State.busTaken_results : (s.busTaken).results = s.results := rfl

end Sys2Proof.Machine
end

