-- ==== Sys2Proof/Laws/Exec.lean ====
section
/-! SUPPORT. What `exec` can do, said once per channel: an operation replaces its channel's record by a function of the tables and that
record, or appends one returned value; only STEP DMC does more. -/

namespace Sys2Proof.Machine

theorem exec_next (i : Instr) (s : State) : ∃ t, exec i s = .next t := by
  cases i <;> exact ⟨_, rfl⟩

/-- What an operation that names the channel does. -/
theorem exec_p1_cases {i : Instr} (h : operationChannel i = some .p1) :
    (∃ f : Tables → Pulse → Pulse, ∀ s, exec i s = .next (s.setP1 (f s.tables s.p1))) ∨
    (∃ g : Tables → Pulse → Nat, ∀ s, exec i s = .next (s.observe (g s.tables s.p1))) := by
  cases i with
  | wr4000 v => exact .inl ⟨fun _ c => (pulseVolumeWrite c v), fun _ => rfl⟩
  | wr4001 v => exact .inl ⟨fun _ c => (pulseSweepWrite c v), fun _ => rfl⟩
  | wr4002 v => exact .inl ⟨fun _ c => (pulseTimerLowWrite c v), fun _ => rfl⟩
  | wr4003 v => exact .inl ⟨fun t c => (pulseLengthWrite t c v), fun _ => rfl⟩
  | stepP1 => exact .inl ⟨fun _ c => (pulseStep c), fun _ => rfl⟩
  | qfP1 => exact .inl ⟨fun _ c => (pulseQuarter c), fun _ => rfl⟩
  | hfP1 => exact .inl ⟨fun _ c => (pulseHalf c), fun _ => rfl⟩
  | rstP1 => exact .inl ⟨fun _ c => (pulseReset c), fun _ => rfl⟩
  | enP1 b => exact .inl ⟨fun _ c => (pulseEnable c b), fun _ => rfl⟩
  | outP1 => exact .inr ⟨fun t c => (pulseOutput t c).toNat, fun _ => rfl⟩
  | lenP1 => exact .inr ⟨fun _ c => c.length.lengthCounter.toNat, fun _ => rfl⟩
  | enqP1 => exact .inr ⟨fun _ c => (lengthEnabled c.length).toNat, fun _ => rfl⟩
  | volP1 => exact .inr ⟨fun _ c => (volume c.envelope).toNat, fun _ => rfl⟩
  | _ => simp [operationChannel] at h

/-- What an operation that names the channel does. -/
theorem exec_p2_cases {i : Instr} (h : operationChannel i = some .p2) :
    (∃ f : Tables → Pulse → Pulse, ∀ s, exec i s = .next (s.setP2 (f s.tables s.p2))) ∨
    (∃ g : Tables → Pulse → Nat, ∀ s, exec i s = .next (s.observe (g s.tables s.p2))) := by
  cases i with
  | wr4004 v => exact .inl ⟨fun _ c => (pulseVolumeWrite c v), fun _ => rfl⟩
  | wr4005 v => exact .inl ⟨fun _ c => (pulseSweepWrite c v), fun _ => rfl⟩
  | wr4006 v => exact .inl ⟨fun _ c => (pulseTimerLowWrite c v), fun _ => rfl⟩
  | wr4007 v => exact .inl ⟨fun t c => (pulseLengthWrite t c v), fun _ => rfl⟩
  | stepP2 => exact .inl ⟨fun _ c => (pulseStep c), fun _ => rfl⟩
  | qfP2 => exact .inl ⟨fun _ c => (pulseQuarter c), fun _ => rfl⟩
  | hfP2 => exact .inl ⟨fun _ c => (pulseHalf c), fun _ => rfl⟩
  | rstP2 => exact .inl ⟨fun _ c => (pulseReset c), fun _ => rfl⟩
  | enP2 b => exact .inl ⟨fun _ c => (pulseEnable c b), fun _ => rfl⟩
  | outP2 => exact .inr ⟨fun t c => (pulseOutput t c).toNat, fun _ => rfl⟩
  | lenP2 => exact .inr ⟨fun _ c => c.length.lengthCounter.toNat, fun _ => rfl⟩
  | enqP2 => exact .inr ⟨fun _ c => (lengthEnabled c.length).toNat, fun _ => rfl⟩
  | volP2 => exact .inr ⟨fun _ c => (volume c.envelope).toNat, fun _ => rfl⟩
  | _ => simp [operationChannel] at h

/-- What an operation that names the channel does. -/
theorem exec_tri_cases {i : Instr} (h : operationChannel i = some .tri) :
    (∃ f : Tables → Triangle → Triangle, ∀ s, exec i s = .next (s.setTri (f s.tables s.tri))) ∨
    (∃ g : Tables → Triangle → Nat, ∀ s, exec i s = .next (s.observe (g s.tables s.tri))) := by
  cases i with
  | wr4008 v => exact .inl ⟨fun _ c => (triangleCounterWrite c v), fun _ => rfl⟩
  | wr4009 _ => exact .inl ⟨fun _ c => c, fun _ => rfl⟩
  | wr400A v => exact .inl ⟨fun _ c => (triangleTimerLowWrite c v), fun _ => rfl⟩
  | wr400B v => exact .inl ⟨fun t c => (triangleLengthWrite t c v), fun _ => rfl⟩
  | stepTri => exact .inl ⟨fun _ c => (triangleStep c), fun _ => rfl⟩
  | qfTri => exact .inl ⟨fun _ c => (triangleQuarter c), fun _ => rfl⟩
  | hfTri => exact .inl ⟨fun _ c => (triangleHalf c), fun _ => rfl⟩
  | rstTri => exact .inl ⟨fun _ c => (triangleReset c), fun _ => rfl⟩
  | enTri b => exact .inl ⟨fun _ c => (triangleEnable c b), fun _ => rfl⟩
  | outTri => exact .inr ⟨fun _ c => (triangleOutput c).toNat, fun _ => rfl⟩
  | lenTri => exact .inr ⟨fun _ c => c.length.lengthCounter.toNat, fun _ => rfl⟩
  | enqTri => exact .inr ⟨fun _ c => (lengthEnabled c.length).toNat, fun _ => rfl⟩
  | _ => simp [operationChannel] at h

/-- What an operation that names the channel does. -/
theorem exec_noi_cases {i : Instr} (h : operationChannel i = some .noi) :
    (∃ f : Tables → Noise → Noise, ∀ s, exec i s = .next (s.setNoi (f s.tables s.noi))) ∨
    (∃ g : Tables → Noise → Nat, ∀ s, exec i s = .next (s.observe (g s.tables s.noi))) := by
  cases i with
  | wr400C v => exact .inl ⟨fun _ c => (noiseVolumeWrite c v), fun _ => rfl⟩
  | wr400D _ => exact .inl ⟨fun _ c => c, fun _ => rfl⟩
  | wr400E v => exact .inl ⟨fun t c => (noisePeriodWrite t c v), fun _ => rfl⟩
  | wr400F v => exact .inl ⟨fun t c => (noiseLengthWrite t c v), fun _ => rfl⟩
  | stepNoi => exact .inl ⟨fun _ c => (noiseStep c), fun _ => rfl⟩
  | qfNoi => exact .inl ⟨fun _ c => (noiseQuarter c), fun _ => rfl⟩
  | hfNoi => exact .inl ⟨fun _ c => (noiseHalf c), fun _ => rfl⟩
  | rstNoi => exact .inl ⟨fun _ c => (noiseReset c), fun _ => rfl⟩
  | enNoi b => exact .inl ⟨fun _ c => (noiseEnable c b), fun _ => rfl⟩
  | outNoi => exact .inr ⟨fun _ c => (noiseOutput c).toNat, fun _ => rfl⟩
  | lenNoi => exact .inr ⟨fun _ c => c.length.lengthCounter.toNat, fun _ => rfl⟩
  | enqNoi => exact .inr ⟨fun _ c => (lengthEnabled c.length).toNat, fun _ => rfl⟩
  | volNoi => exact .inr ⟨fun _ c => (volume c.envelope).toNat, fun _ => rfl⟩
  | _ => simp [operationChannel] at h

/-- What an operation that names the channel does, but for STEP DMC. -/
theorem exec_dmc_cases {i : Instr} (h : operationChannel i = some .dmc) (hs : i ≠ .stepDmc) :
    (∃ f : Tables → Dmc → Dmc, ∀ s, exec i s = .next (s.setDmc (f s.tables s.dmc))) ∨
    (∃ g : Tables → Dmc → Nat, ∀ s, exec i s = .next (s.observe (g s.tables s.dmc))) := by
  cases i with
  | wr4010 v => exact .inl ⟨fun t c => (dmcRateWrite t c v), fun _ => rfl⟩
  | wr4011 v => exact .inl ⟨fun _ c => (dmcLevelWrite c v), fun _ => rfl⟩
  | wr4012 v => exact .inl ⟨fun _ c => (dmcAddressWrite c v), fun _ => rfl⟩
  | wr4013 v => exact .inl ⟨fun _ c => (dmcLengthWrite c v), fun _ => rfl⟩
  | stepDmc => exact absurd rfl hs
  | qfDmc => exact .inl ⟨fun _ c => c, fun _ => rfl⟩
  | hfDmc => exact .inl ⟨fun _ c => c, fun _ => rfl⟩
  | rstDmc => exact .inl ⟨fun _ c => (dmcReset c), fun _ => rfl⟩
  | ackDmc => exact .inl ⟨fun _ c => (dmcAck c), fun _ => rfl⟩
  | outDmc => exact .inr ⟨fun _ c => (dmcOutput c).toNat, fun _ => rfl⟩
  | irqDmc => exact .inr ⟨fun _ c => (dmcIrq c).toNat, fun _ => rfl⟩
  | _ => simp [operationChannel] at h

/-- `MIX` only returns a value. -/
theorem exec_mix (s : State) : exec .mix s = .next (s.observe (mixSum s)) := rfl

/-- An operation that only observes returns one value. -/
theorem exec_observe {i : Instr} (h : isObservation i = true) (s : State) : ∃ n, exec i s = .next (s.observe n) := by
  cases i <;> first | exact ⟨_, rfl⟩ | simp [isObservation] at h

end Sys2Proof.Machine
end

