-- ==== Sys2Proof/Laws/Ops.lean ====
section
/-! SUPPORT. What each shared operation does, said once: provers cite these instead of unfolding the operations. -/

namespace Sys2Proof.Machine

/-! ### Bit vectors and the counters' decrement -/

theorem sub_one_eq_ofNat {w : Nat} {x : BitVec w} (h : x ≠ 0#w) : x - 1#w = BitVec.ofNat w (x.toNat - 1) := by
  have hx : x.toNat ≠ 0 := fun h0 => h (BitVec.eq_of_toNat_eq (by simpa using h0))
  have hlt := x.isLt
  have hw : w ≠ 0 := by rintro rfl; exact hx (by simpa using hlt)
  have h1 : 1 < 2 ^ w := Nat.one_lt_two_pow hw
  apply BitVec.eq_of_toNat_eq
  rw [BitVec.toNat_sub, BitVec.toNat_ofNat, BitVec.toNat_ofNat, Nat.mod_eq_of_lt h1,
    show 2 ^ w - 1 + x.toNat = (x.toNat - 1) + 2 ^ w by omega, Nat.add_mod_right]

@[simp] theorem toNat_ofNat_pred {w : Nat} (x : BitVec w) (n : Nat) :
    (BitVec.ofNat w (x.toNat - n)).toNat = x.toNat - n := by
  rw [BitVec.toNat_ofNat, Nat.mod_eq_of_lt (by have := x.isLt; omega)]

/-! ### Timer unit -/

theorem timerStep_fst {w : Nat} (t : Timer w) : (timerStep t).1 = clockedTimer t := by
  unfold timerStep clockedTimer
  by_cases h : t.timerCycle = 0#w
  · simp [h]
  · simp [h, sub_one_eq_ofNat h]

theorem timerStep_snd {w : Nat} (t : Timer w) : (timerStep t).2 = decide (t.timerCycle = 0) := by
  unfold timerStep
  split <;> simp_all

@[simp] theorem clockedTimer_timerPeriod {w : Nat} (t : Timer w) : (clockedTimer t).timerPeriod = t.timerPeriod := rfl

theorem clockedTimer_timerCycle_le {w : Nat} (t : Timer w) :
    (clockedTimer t).timerCycle.toNat ≤ max t.timerCycle.toNat t.timerPeriod.toNat := by
  unfold clockedTimer
  dsimp only
  split
  · omega
  · rw [toNat_ofNat_pred]; omega

/-- Both branches of the low write keep bits 10:8 and replace bits 7:0 (spec R31, corner case). -/
theorem timerLowWrite_eq (t : Timer 11) (v : Byte) :
    timerLowWrite t v = { t with timerPeriod := joinedPeriod (t.timerPeriod.toNat / 256) v.toNat } := by
  have hv := v.isLt
  have hp := t.timerPeriod.isLt
  have low : v.setWidth 11 = BitVec.ofNat 11 v.toNat := by
    apply BitVec.eq_of_toNat_eq; simp [BitVec.toNat_setWidth]
  have split_or : (t.timerPeriod &&& 0x700#11) ||| v.setWidth 11 =
      BitVec.ofNat 11 (256 * (t.timerPeriod.toNat / 256) + v.toNat) := by
    have key : ∀ p : BitVec 11, (p &&& 0x700#11).toNat = 2 ^ 8 * (p.toNat / 256) := by decide
    apply BitVec.eq_of_toNat_eq
    rw [BitVec.toNat_or, key, BitVec.toNat_setWidth, BitVec.toNat_ofNat,
      Nat.mod_eq_of_lt (show v.toNat < 2 ^ 11 by omega), ← Nat.two_pow_add_eq_or_of_lt (by omega),
      Nat.mod_eq_of_lt (by omega)]
  unfold timerLowWrite joinedPeriod
  split
  · exact congrArg (fun p => { t with timerPeriod := p }) split_or
  · next h => rw [low, Nat.div_eq_of_lt (show t.timerPeriod.toNat < 256 by omega)]; simp

theorem timerHighWrite_eq (t : Timer 11) (h : BitVec 3) :
    timerHighWrite t h = { t with timerPeriod := joinedPeriod h.toNat (t.timerPeriod.toNat % 256) } := by
  have hh := h.isLt
  have hl : t.timerPeriod.toNat % 2 ^ 8 < 2 ^ 8 := Nat.mod_lt _ (by omega)
  unfold timerHighWrite joinedPeriod
  congr 1
  apply BitVec.eq_of_toNat_eq
  rw [BitVec.toNat_append, BitVec.toNat_setWidth, BitVec.toNat_ofNat,
    ← Nat.shiftLeft_add_eq_or_of_lt hl, Nat.shiftLeft_eq,
    Nat.mod_eq_of_lt (show 256 * h.toNat + t.timerPeriod.toNat % 256 < 2 ^ (3 + 8) by omega)]
  omega

@[simp] theorem timerHighField_toNat (v : Byte) : (timerHighField v).toNat = v.toNat % 8 := by
  simp [timerHighField, BitVec.extractLsb']

@[simp] theorem joinedPeriod_toNat {h l : Nat} (hh : h < 8) (hl : l < 256) :
    (joinedPeriod h l).toNat = 256 * h + l := by
  unfold joinedPeriod
  rw [BitVec.toNat_ofNat, Nat.mod_eq_of_lt (by omega)]

/-! ### Length counter -/

theorem lengthHalf_eq (l : LengthCounter) : lengthHalf l = halvedLength l := by
  unfold lengthHalf halvedLength
  rcases l with ⟨c, h⟩
  by_cases hc : c = 0#8
  · subst hc; cases h <;> simp
  · cases h <;> simp [hc, sub_one_eq_ofNat]

@[simp] theorem halvedLength_toNat (l : LengthCounter) : (halvedLength l).lengthCounter.toNat =
    l.lengthCounter.toNat - (if l.lengthCounterHalt then 0 else 1) := toNat_ofNat_pred _ _

@[simp] theorem halvedLength_halt (l : LengthCounter) :
    (halvedLength l).lengthCounterHalt = l.lengthCounterHalt := rfl

/-- The length table's entry is the one that the byte's upper five bits name (spec R37). -/
theorem lengthEntry_get? (t : Tables) (v : Byte) :
    t.lengthTable[v.toNat / 8]? = some (lengthEntry t (lengthIndexField v)) := by
  have hv := v.isLt
  have : (lengthIndexField v).toNat = v.toNat / 8 := by
    simp [lengthIndexField, BitVec.extractLsb', Nat.shiftRight_eq_div_pow]
    omega
  rw [Vector.getElem?_eq_getElem (show v.toNat / 8 < 32 by omega)]
  simp only [lengthEntry, this]

theorem noisePeriodEntry_get? (t : Tables) (v : Byte) :
    t.noisePeriodTable[v.toNat % 16]? = some (noisePeriodEntry t (periodIndexField v)) := by
  have : (periodIndexField v).toNat = v.toNat % 16 := by simp [periodIndexField, BitVec.extractLsb']
  rw [Vector.getElem?_eq_getElem (show v.toNat % 16 < 16 by omega)]
  simp only [noisePeriodEntry, this]

theorem dmcRateEntry_get? (t : Tables) (v : Byte) :
    t.dmcRateTable[v.toNat % 16]? = some (dmcRateEntry t (rateIndexField v)) := by
  have : (rateIndexField v).toNat = v.toNat % 16 := by simp [rateIndexField, BitVec.extractLsb']
  rw [Vector.getElem?_eq_getElem (show v.toNat % 16 < 16 by omega)]
  simp only [dmcRateEntry, this]

/-- The duty step is the entry `phase` of row `duty` (spec R5). -/
theorem dutyStep_get? (t : Tables) (duty : BitVec 2) (phase : BitVec 3) :
    ∃ row, t.dutyTable[duty.toNat]? = some row ∧ row[phase.toNat]? = some (dutyStep t duty phase) :=
  ⟨_, Vector.getElem?_eq_getElem duty.isLt, Vector.getElem?_eq_getElem phase.isLt⟩

theorem lengthEntry_le {t : Tables} (h : t.Admissible) (i : BitVec 5) : (lengthEntry t i).toNat ≤ 254 := by
  have := h.1 ⟨i.toNat, i.isLt⟩
  simpa [lengthEntry, BitVec.le_def] using this

/-! ### Envelope, sweep and linear counter -/

theorem envelopeQuarter_eq (loop : Bool) (e : Envelope) : envelopeQuarter loop e = quarteredEnvelope loop e := by
  unfold envelopeQuarter quarteredEnvelope
  rcases e with ⟨en, cv, ep, er, ec, ev⟩
  cases er
  · by_cases hc : ec = 0#4
    · subst hc
      by_cases hv : ev = 0#4
      · subst hv; cases loop <;> simp
      · simp [hv, sub_one_eq_ofNat hv]
    · simp [hc, sub_one_eq_ofNat hc]
  · simp

theorem sweepUpdate_timerCycle (p : Pulse) : (sweepUpdate p).timerCycle = p.timer.timerCycle := by
  unfold sweepUpdate timerSetPeriod; split <;> rfl

/-- The sweep half frame never looks at the length counter (spec R67: the two parts touch disjoint fields). -/
theorem sweepTarget_withLength (p : Pulse) (l : LengthCounter) : sweepTarget { p with length := l } = sweepTarget p := rfl

theorem sweepHalf_eq (p : Pulse) : sweepHalf p = { halvedPulse p with length := p.length } := by
  unfold sweepHalf halvedPulse sweepUpdate timerSetPeriod sweepDue
  by_cases hr : p.sweep.sweepReset = true
  · simp [hr]
  · by_cases hc : p.sweep.sweepCycle = 0#3
    · by_cases h : p.sweep.sweepEnabled = true ∧ 8 ≤ sweepTarget p ∧ sweepTarget p ≤ 2047 <;> simp [hr, hc, h]
    · simp [hr, hc, sub_one_eq_ofNat hc]

theorem linearQuarter_linearCounter (control : Bool) (l : LinearCounter) :
    (linearQuarter control l).linearCounter =
      if l.linearCounterReset then l.linearCounterMax else BitVec.ofNat 7 (l.linearCounter.toNat - 1) := by
  unfold linearQuarter
  by_cases hr : l.linearCounterReset = true
  · simp [hr]
  · by_cases hc : l.linearCounter = 0#7
    · simp [hr, hc]
    · simp [hr, hc, sub_one_eq_ofNat hc]

/-! ### DMC -/

@[simp] theorem sampleAddressOf_toNat (v : Byte) : (sampleAddressOf v).toNat = 0xC000 + 64 * v.toNat := by
  have := v.isLt
  unfold sampleAddressOf
  rw [BitVec.toNat_ofNat, Nat.mod_eq_of_lt (by omega)]

@[simp] theorem sampleLengthOf_toNat (v : Byte) : (sampleLengthOf v).toNat = 16 * v.toNat + 1 := by
  have := v.isLt
  unfold sampleLengthOf
  rw [BitVec.toNat_ofNat, Nat.mod_eq_of_lt (by omega)]

@[simp] theorem directLoadField_toNat (v : Byte) : (directLoadField v).toNat = v.toNat % 128 := by
  simp [directLoadField, BitVec.extractLsb']

theorem dmcLevel_toNat (up : Bool) (l : BitVec 7) :
    (dmcLevel up l).toNat = if up then min 127 (l.toNat + 2) else l.toNat - 2 := by
  have := l.isLt
  unfold dmcLevel
  split
  · rw [BitVec.toNat_ofNat, Nat.mod_eq_of_lt (by omega)]
  · rw [toNat_ofNat_pred]

theorem readerActive_iff (d : Dmc) : readerActive d = true ↔ fetchDue d := by
  simp [readerActive, fetchDue, Option.isNone_iff_eq_none]

theorem busByte_eq (s : State) : busByte s = answeredByte s := by
  unfold busByte answeredByte
  cases s.busAnswers <;> rfl

theorem nextIndex_ge {a : Addr} (h : 0x8000 ≤ a.toNat) : 0x8000 ≤ (nextIndex a).toNat := by
  have hl := a.isLt
  unfold nextIndex
  split
  · decide
  · next hne =>
    have : a.toNat ≠ 0xFFFF := fun h => hne (BitVec.eq_of_toNat_eq (by simpa using h))
    rw [BitVec.toNat_add]
    show 0x8000 ≤ (a.toNat + 1) % 65536
    omega

/-- The memory reader does nothing unless a fetch is due; then it makes one bus read at the cursor (spec R97). -/
theorem memoryReader_cases (s : State) :
    (¬fetchDue s.dmc ∧ memoryReader s = s) ∨
    (fetchDue s.dmc ∧ memoryReader s =
      ((s.busTaken).emit (.fetch s.dmc.sampleIndex)).setDmc (dmcFetched s.dmc (answeredByte s))) := by
  unfold memoryReader
  by_cases h : fetchDue s.dmc
  · right; rw [if_pos ((readerActive_iff _).2 h), busByte_eq]; exact ⟨h, rfl⟩
  · left; rw [if_neg (fun hr => h ((readerActive_iff _).1 hr))]; exact ⟨h, rfl⟩

end Sys2Proof.Machine
end

