-- ==== Sys2Proof/Laws/PerInstr.lean ====
section
/-! SUPPORT. Per-instruction statements about the operations as syntax: the word of every operation is a legal one. -/

namespace Sys2Proof.Laws.LegalWord

/-- The word of the operation matches a row of the opcode table (spec R22). -/
def Statement (i : Instr) : Prop := wordLegal (encode i) = true

theorem wr4000 (v : Byte) : Statement (.wr4000 v) := by
  unfold Statement; revert v; decide
theorem wr4001 (v : Byte) : Statement (.wr4001 v) := by
  unfold Statement; revert v; decide
theorem wr4002 (v : Byte) : Statement (.wr4002 v) := by
  unfold Statement; revert v; decide
theorem wr4003 (v : Byte) : Statement (.wr4003 v) := by
  unfold Statement; revert v; decide
theorem wr4004 (v : Byte) : Statement (.wr4004 v) := by
  unfold Statement; revert v; decide
theorem wr4005 (v : Byte) : Statement (.wr4005 v) := by
  unfold Statement; revert v; decide
theorem wr4006 (v : Byte) : Statement (.wr4006 v) := by
  unfold Statement; revert v; decide
theorem wr4007 (v : Byte) : Statement (.wr4007 v) := by
  unfold Statement; revert v; decide
theorem wr4008 (v : Byte) : Statement (.wr4008 v) := by
  unfold Statement; revert v; decide
theorem wr4009 (v : Byte) : Statement (.wr4009 v) := by
  unfold Statement; revert v; decide
theorem wr400A (v : Byte) : Statement (.wr400A v) := by
  unfold Statement; revert v; decide
theorem wr400B (v : Byte) : Statement (.wr400B v) := by
  unfold Statement; revert v; decide
theorem wr400C (v : Byte) : Statement (.wr400C v) := by
  unfold Statement; revert v; decide
theorem wr400D (v : Byte) : Statement (.wr400D v) := by
  unfold Statement; revert v; decide
theorem wr400E (v : Byte) : Statement (.wr400E v) := by
  unfold Statement; revert v; decide
theorem wr400F (v : Byte) : Statement (.wr400F v) := by
  unfold Statement; revert v; decide
theorem wr4010 (v : Byte) : Statement (.wr4010 v) := by
  unfold Statement; revert v; decide
theorem wr4011 (v : Byte) : Statement (.wr4011 v) := by
  unfold Statement; revert v; decide
theorem wr4012 (v : Byte) : Statement (.wr4012 v) := by
  unfold Statement; revert v; decide
theorem wr4013 (v : Byte) : Statement (.wr4013 v) := by
  unfold Statement; revert v; decide
theorem stepP1 : Statement .stepP1 := by
  unfold Statement; decide
theorem stepP2 : Statement .stepP2 := by
  unfold Statement; decide
theorem stepTri : Statement .stepTri := by
  unfold Statement; decide
theorem stepNoi : Statement .stepNoi := by
  unfold Statement; decide
theorem stepDmc : Statement .stepDmc := by
  unfold Statement; decide
theorem qfP1 : Statement .qfP1 := by
  unfold Statement; decide
theorem qfP2 : Statement .qfP2 := by
  unfold Statement; decide
theorem qfTri : Statement .qfTri := by
  unfold Statement; decide
theorem qfNoi : Statement .qfNoi := by
  unfold Statement; decide
theorem qfDmc : Statement .qfDmc := by
  unfold Statement; decide
theorem hfP1 : Statement .hfP1 := by
  unfold Statement; decide
theorem hfP2 : Statement .hfP2 := by
  unfold Statement; decide
theorem hfTri : Statement .hfTri := by
  unfold Statement; decide
theorem hfNoi : Statement .hfNoi := by
  unfold Statement; decide
theorem hfDmc : Statement .hfDmc := by
  unfold Statement; decide
theorem rstP1 : Statement .rstP1 := by
  unfold Statement; decide
theorem rstP2 : Statement .rstP2 := by
  unfold Statement; decide
theorem rstTri : Statement .rstTri := by
  unfold Statement; decide
theorem rstNoi : Statement .rstNoi := by
  unfold Statement; decide
theorem rstDmc : Statement .rstDmc := by
  unfold Statement; decide
theorem enP1 (b : Bool) : Statement (.enP1 b) := by
  unfold Statement; revert b; decide
theorem enP2 (b : Bool) : Statement (.enP2 b) := by
  unfold Statement; revert b; decide
theorem enTri (b : Bool) : Statement (.enTri b) := by
  unfold Statement; revert b; decide
theorem enNoi (b : Bool) : Statement (.enNoi b) := by
  unfold Statement; revert b; decide
theorem ackDmc : Statement .ackDmc := by
  unfold Statement; decide
theorem outP1 : Statement .outP1 := by
  unfold Statement; decide
theorem outP2 : Statement .outP2 := by
  unfold Statement; decide
theorem outTri : Statement .outTri := by
  unfold Statement; decide
theorem outNoi : Statement .outNoi := by
  unfold Statement; decide
theorem outDmc : Statement .outDmc := by
  unfold Statement; decide
theorem lenP1 : Statement .lenP1 := by
  unfold Statement; decide
theorem lenP2 : Statement .lenP2 := by
  unfold Statement; decide
theorem lenTri : Statement .lenTri := by
  unfold Statement; decide
theorem lenNoi : Statement .lenNoi := by
  unfold Statement; decide
theorem enqP1 : Statement .enqP1 := by
  unfold Statement; decide
theorem enqP2 : Statement .enqP2 := by
  unfold Statement; decide
theorem enqTri : Statement .enqTri := by
  unfold Statement; decide
theorem enqNoi : Statement .enqNoi := by
  unfold Statement; decide
theorem volP1 : Statement .volP1 := by
  unfold Statement; decide
theorem volP2 : Statement .volP2 := by
  unfold Statement; decide
theorem volNoi : Statement .volNoi := by
  unfold Statement; decide
theorem irqDmc : Statement .irqDmc := by
  unfold Statement; decide
theorem mix : Statement .mix := by
  unfold Statement; decide

end Sys2Proof.Laws.LegalWord
end

