-- ==== Sys2Proof/Laws/Step.lean ====
section
/-! SUPPORT. What `step` can do, said once. -/

namespace Sys2Proof.Machine

/-- A step that answers a next state executed the operation that the word at the position decodes to. -/
theorem step_next_cases {s t : State} (h : step s = .next t) :
    ∃ w i, s.script[s.position]? = some w ∧ decode w = .ok i ∧ exec i s.advance = .next t := by
  unfold step fetchWord at h
  split at h
  · cases h
  · next w hw =>
    split at h
    · next i hi => exact ⟨w, i, hw, hi, h⟩
    · next e _ => cases e; cases h

/-- After `withFetchWord` the next word is the one placed. -/
theorem fetchWord_withFetchWord (s : State) (nbits w : Nat) :
    fetchWord (s.withFetchWord nbits w) = some (BitVec.ofNat 32 (w % 2 ^ nbits)) := by
  unfold fetchWord State.withFetchWord scriptPlace
  dsimp only
  rw [List.getElem?_append_right] <;> simp <;> try omega
  have : s.position - (min s.position s.script.length + (s.position - s.script.length)) = 0 := by omega
  simp [this]

end Sys2Proof.Machine
end

