-- ==== Sys2Proof/Tests/Slice0.lean ====
section
/-! SUPPORT. The model's own tests. Every expected value comes from the spec (the section is named in the comment), not from the model. -/

namespace Sys2Proof.Tests

open Sys2Proof.Machine

/-- What the outcome shows through `f`, if it is a next state. -/
def got {α : Type} (o : Host.Outcome State Fault Refusal) (f : State → α) : Option α :=
  match o with
  | .next s => some (f s)
  | .fault _ => none
  | .refused _ => none

/-- The refusal of an outcome. -/
def refusal (o : Host.Outcome State Fault Refusal) : Option Refusal :=
  match o with
  | .refused r => some r
  | .next _ => none
  | .fault _ => none

/-- All words decode to the operations beside them. -/
def allDecode (ws : List (Word × Instr)) : Bool := ws.all (fun p => (decode p.1).toOption == some p.2)

/-! ### Decoding: one word per row, written from spec 30_encoding.md sections 1, 2, 4 and 6 -/

theorem test_decode_register_writes : allDecode [
    (0x004000BF, .wr4000 0xBF),
    (0x004001A9, .wr4001 0xA9),
    (0x004002CD, .wr4002 0xCD),
    (0x004003F9, .wr4003 0xF9),
    (0x00400440, .wr4004 0x40),
    (0x00400589, .wr4005 0x89),
    (0x004006FD, .wr4006 0xFD),
    (0x00400718, .wr4007 0x18),
    (0x00400883, .wr4008 0x83),
    (0x00400900, .wr4009 0x00),
    (0x00400A01, .wr400A 0x01),
    (0x00400B08, .wr400B 0x08),
    (0x00400C39, .wr400C 0x39),
    (0x00400DFF, .wr400D 0xFF),
    (0x00400E8F, .wr400E 0x8F),
    (0x00400F1F, .wr400F 0x1F),
    (0x004010CF, .wr4010 0xCF),
    (0x0040117E, .wr4011 0x7E),
    (0x004012C3, .wr4012 0xC3),
    (0x00401304, .wr4013 0x04)] = true := by decide

theorem test_decode_hooks : allDecode [
    (0x10400000, .stepP1),
    (0x10400400, .stepP2),
    (0x10400800, .stepTri),
    (0x10400C00, .stepNoi),
    (0x10401000, .stepDmc),
    (0x20400000, .qfP1),
    (0x20400400, .qfP2),
    (0x20400800, .qfTri),
    (0x20400C00, .qfNoi),
    (0x20401000, .qfDmc),
    (0x30400000, .hfP1),
    (0x30400400, .hfP2),
    (0x30400800, .hfTri),
    (0x30400C00, .hfNoi),
    (0x30401000, .hfDmc),
    (0x40400000, .rstP1),
    (0x40400400, .rstP2),
    (0x40400800, .rstTri),
    (0x40400C00, .rstNoi),
    (0x40401000, .rstDmc)] = true := by decide

theorem test_decode_enable_and_ack : allDecode [
    (0x50400000, .enP1 false), (0x50400001, .enP1 true),
    (0x50400400, .enP2 false), (0x50400401, .enP2 true),
    (0x50400800, .enTri false), (0x50400801, .enTri true),
    (0x50400C00, .enNoi false), (0x50400C01, .enNoi true),
    (0x60401000, .ackDmc)] = true := by decide

theorem test_decode_observations : allDecode [
    (0x70400000, .outP1),
    (0x70400400, .outP2),
    (0x70400800, .outTri),
    (0x70400C00, .outNoi),
    (0x70401000, .outDmc),
    (0x70400001, .lenP1),
    (0x70400401, .lenP2),
    (0x70400801, .lenTri),
    (0x70400C01, .lenNoi),
    (0x70400002, .enqP1),
    (0x70400402, .enqP2),
    (0x70400802, .enqTri),
    (0x70400C02, .enqNoi),
    (0x70400003, .volP1),
    (0x70400403, .volP2),
    (0x70400C03, .volNoi),
    (0x70401004, .irqDmc),
    (0x80000000, .mix)] = true := by decide

/-! ### Ill-formed words are refused: one per check (95_test_vectors.md T-ENC-8 to T-ENC-18) -/

def illFormedWords : List Word := [
  0x01400000, -- T-ENC-8: the zero field is not 0
  0x00401400, -- T-ENC-9: a write outside $4000..$4013
  0x50401001, -- T-ENC-10: no EN DMC
  0x50400002, -- T-ENC-11: b is not 0 or 1
  0x70400803, -- T-ENC-12: no VOL TRI
  0x70401001, -- T-ENC-13: no LEN DMC
  0x60400000, -- T-ENC-14: ACK only on the DMC
  0x90000000, -- T-ENC-15: kind 9
  0x10400001, -- T-ENC-16: data must be 0
  0x10400100, -- T-ENC-17: $4001 is not a channel base
  0x80000001, 0x80400000] -- T-ENC-18: MIX has addr 0 and data 0

theorem test_ill_formed_words_are_not_legal : illFormedWords.all (fun w => !wordLegal w) = true := by decide

theorem test_ill_formed_words_do_not_decode :
    illFormedWords.all (fun w => (decode w).toOption.isNone) = true := by decide

/-- T-ENC-7: a write to an unused register is legal. -/
theorem test_unused_register_is_legal : wordLegal 0x00400900 = true := by decide

/-- T-ENC-8: the step refuses the word by name. -/
theorem test_step_refuses_illegal_word :
    refusal (step { State.reset with script := [0x01400000] }) = some (.illegalWord 0x01400000) := by decide

/-- T-ENC-19: construction with P1 negateMode 2 is refused. -/
theorem test_construct_refuses_bad_negate_mode :
    refusal (construct referenceTables 2 0) = some .badNegateMode := by decide

/-- The step takes the word at the position and moves past it (R11). -/
theorem test_step_advances :
    got (step (State.reset.withFetchWord 32 0x00401140)) (fun t => (t.dmc.output, t.position)) = some (64, 1) := by
  decide

/-! ### Small states -/

/-- A pulse channel with the given timer, sweep byte fields zero. -/
def pulseAt (period cycle : BitVec 11) (negateMode : Bool) : Pulse :=
  { Pulse.initial negateMode with timer := ⟨period, cycle⟩ }

/-- A state with the pulse record in both channels' places. -/
def pulses (p1 p2 : Pulse) : State := { State.reset with p1 := p1, p2 := p2 }

def withTri (c : Triangle) : State := { State.reset with tri := c }
def withNoi (c : Noise) : State := { State.reset with noi := c }
def withDmc (d : Dmc) (bus : List Byte) : State := { State.reset with dmc := d, busAnswers := bus }

/-! ### Pulse channels -/

/-- R61: WR $4000, #$BF gives duty 2, halt 1, constant volume 15. -/
theorem test_wr4000 : got (exec (.wr4000 0xBF) State.reset)
    (fun t => (t.p1.duty, t.p1.length.lengthCounterHalt, t.p1.envelope.envelopeEnabled, t.p1.envelope.constantVolume)) =
    some (2, true, true, 15) := by decide

/-- T-PUL-4's setup byte on P2; P1 is untouched. -/
theorem test_wr4004 : got (exec (.wr4004 0xFF) State.reset) (fun t => (t.p2.duty, t.p1.duty)) = some (3, 0) := by decide

/-- R50: v = $A9. -/
theorem test_wr4001 : got (exec (.wr4001 0xA9) State.reset) (fun t => t.p1.sweep) =
    some ⟨true, 2, true, 1, true, 0⟩ := by decide

/-- R62: v = $08, on P2. -/
theorem test_wr4005 : got (exec (.wr4005 0x08) State.reset) (fun t => t.p2.sweep) =
    some ⟨false, 0, true, 0, true, 0⟩ := by decide

/-- T-TMR-1 and T-TMR-4. -/
theorem test_wr4002 :
    got (exec (.wr4002 0xCD) (pulses (pulseAt 0x2AB 5 true) (pulseAt 0 0 false))) (fun t => t.p1.timer) = some ⟨0x2CD, 5⟩ ∧
    got (exec (.wr4002 0x12) (pulses (pulseAt 0x0FF 0 true) (pulseAt 0 0 false))) (fun t => t.p1.timer) = some ⟨0x012, 0⟩ := by
  decide

/-- R63: $300 and $FD give $3FD. -/
theorem test_wr4006 :
    got (exec (.wr4006 0xFD) (pulses (pulseAt 0 0 true) (pulseAt 0x300 0 false))) (fun t => t.p2.timer.timerPeriod) =
    some 0x3FD := by decide

/-- T-TMR-5 and R64: $2CD and $F9 give $1CD, length 30, envelopeReset 1, phase 0. -/
theorem test_wr4003 :
    got (exec (.wr4003 0xF9) (pulses { pulseAt 0x2CD 3 true with phase := 3 } (pulseAt 0 0 false)))
      (fun t => (t.p1.timer, t.p1.length.lengthCounter, t.p1.envelope.envelopeReset, t.p1.phase)) =
    some (⟨0x1CD, 3⟩, 30, true, 0) := by decide

/-- R37: v = $08 loads 254, on P2. -/
theorem test_wr4007 : got (exec (.wr4007 0x08) State.reset) (fun t => (t.p2.length.lengthCounter, t.p1.length.lengthCounter)) =
    some (254, 0) := by decide

/-- R65 (phase 7 wraps) and T-TMR-8's first step (cycle reloads). -/
theorem test_stepP1 :
    got (exec .stepP1 (pulses { pulseAt 0 0 true with phase := 7 } (pulseAt 0 0 false))) (fun t => t.p1.phase) = some 0 ∧
    got (exec .stepP1 (pulses (pulseAt 2 0 true) (pulseAt 0 0 false))) (fun t => t.p1.timer) = some ⟨2, 2⟩ := by decide

/-- R34: a count above 0 counts down and does not tick. -/
theorem test_stepP2 :
    got (exec .stepP2 (pulses (pulseAt 0 0 true) (pulseAt 2 2 false))) (fun t => (t.p2.timer, t.p2.phase)) =
    some (⟨2, 1⟩, 0) := by decide

/-- T-ENV-1's first quarter frame (15, 2); T-ENV-2's quarter frame that reloads 15 from 0. -/
theorem test_qfP1 :
    got (exec .qfP1 (pulses { pulseAt 0 0 true with envelope := ⟨false, 2, 2, true, 0, 5⟩ } (pulseAt 0 0 false)))
      (fun t => t.p1.envelope) = some ⟨false, 2, 2, false, 2, 15⟩ ∧
    got (exec .qfP1 (pulses
        { pulseAt 0 0 true with envelope := ⟨false, 0, 0, false, 0, 0⟩, length := ⟨254, true⟩ } (pulseAt 0 0 false)))
      (fun t => t.p1.envelope.envelopeVolume) = some 15 := by decide

/-- T-ENV-3: with loop 0 the volume stays 0. T-ENV-1: (15, 0) is followed by (14, 2). -/
theorem test_qfP2 :
    got (exec .qfP2 (pulses (pulseAt 0 0 true) { pulseAt 0 0 false with envelope := ⟨false, 0, 0, false, 0, 0⟩ }))
      (fun t => t.p2.envelope.envelopeVolume) = some 0 ∧
    got (exec .qfP2 (pulses (pulseAt 0 0 true) { pulseAt 0 0 false with envelope := ⟨false, 2, 2, false, 0, 15⟩ }))
      (fun t => t.p2.envelope) = some ⟨false, 2, 2, false, 2, 14⟩ := by decide

/-- T-SWP-2: P1 goes from 256 to 127; T-SWP-1: from $798 it stays. -/
theorem test_hfP1 :
    got (exec .hfP1 (pulses { pulseAt 256 9 true with sweep := ⟨true, 0, true, 1, false, 0⟩, length := ⟨10, false⟩ }
      (pulseAt 0 0 false))) (fun t => (t.p1.timer, t.p1.length.lengthCounter)) = some (⟨127, 9⟩, 9) ∧
    got (exec .hfP1 (pulses { pulseAt 0x798 0 true with sweep := ⟨true, 0, false, 1, false, 0⟩ } (pulseAt 0 0 false)))
      (fun t => t.p1.timer.timerPeriod) = some 0x798 := by decide

/-- T-SWP-3: P2 goes from 256 to 128; R53: the triggering half frame only consumes sweepReset. -/
theorem test_hfP2 :
    got (exec .hfP2 (pulses (pulseAt 0 0 true) { pulseAt 256 0 false with sweep := ⟨true, 0, true, 1, false, 0⟩ }))
      (fun t => t.p2.timer.timerPeriod) = some 128 ∧
    got (exec .hfP2 (pulses (pulseAt 0 0 true) { pulseAt 0x100 0 false with sweep := ⟨true, 2, false, 1, true, 0⟩ }))
      (fun t => (t.p2.timer.timerPeriod, t.p2.sweep.sweepReset, t.p2.sweep.sweepCycle)) = some (0x100, false, 2) := by decide

/-- T-RST-1: every P1 field at its reset value, negateMode kept. -/
theorem test_rstP1 :
    got (exec .rstP1 (pulses { pulseAt 0x00F 31 true with
        length := ⟨254, true⟩, envelope := ⟨true, 15, 15, true, 0, 0⟩, sweep := ⟨true, 0, true, 1, false, 0⟩, duty := 2, phase := 1 }
      (pulseAt 8 32 false))) (fun t => (t.p1, t.p2.timer)) =
    some (⟨⟨0, 0⟩, ⟨0, false⟩, ⟨false, 0, 0, false, 0, 0⟩, ⟨false, 0, false, 0, false, 0⟩, 0, 0, true⟩, ⟨8, 32⟩) := by decide

/-- R120: P2 keeps negateMode 0. -/
theorem test_rstP2 :
    got (exec .rstP2 (pulses (pulseAt 5 5 true) (pulseAt 5 5 false))) (fun t => (t.p2.timer, t.p2.negateMode, t.p1.timer)) =
    some (⟨0, 0⟩, false, ⟨5, 5⟩) := by decide

/-- R38's example and T-LEN-8. -/
theorem test_enP1_enP2 :
    got (exec (.enP1 false) (pulses { pulseAt 0 0 true with length := ⟨40, true⟩ } (pulseAt 0 0 false)))
      (fun t => t.p1.length) = some ⟨0, true⟩ ∧
    got (exec (.enP2 true) State.reset) (fun t => t.p2.length.lengthCounter) = some 0 := by decide

/-! ### Triangle -/

/-- A triangle with the given timer, counters, phase and held output. -/
def triAt (period : BitVec 11) (length : Byte) (linear : BitVec 7) (phase : BitVec 5) (held : BitVec 4) : Triangle :=
  ⟨⟨period, 0⟩, ⟨length, false⟩, ⟨linear, 20, false⟩, phase, held⟩

/-- R72: $FF gives max 127, control 1. -/
theorem test_wr4008 : got (exec (.wr4008 0xFF) State.reset)
    (fun t => (t.tri.linear, t.tri.length.lengthCounterHalt)) = some (⟨0, 127, false⟩, true) := by decide

/-- R73: nothing changes. -/
theorem test_wr4009 : got (exec (.wr4009 0xFF) State.reset) id = some State.reset := by decide

/-- R74: period 0 and $01 give 1. -/
theorem test_wr400A : got (exec (.wr400A 0x01) State.reset) (fun t => t.tri.timer.timerPeriod) = some 1 := by decide

/-- R75: $08 loads 254, clears period bits 10:8, sets linearCounterReset; the phase stays. -/
theorem test_wr400B : got (exec (.wr400B 0x08) (withTri (triAt 0x7AB 0 0 9 0)))
    (fun t => (t.tri.length.lengthCounter, t.tri.timer.timerPeriod, t.tri.linear.linearCounterReset, t.tri.phase)) =
    some (254, 0x0AB, true, 9) := by decide

/-- R76's ultrasonic example; T-TRI-6: phase 15 goes to 16, output 15. -/
theorem test_stepTri :
    got (exec .stepTri (withTri (triAt 0 10 5 3 3))) (fun t => (t.tri.phase, t.tri.lastOutput)) = some (4, 3) ∧
    got (exec .stepTri (withTri (triAt 2 10 5 15 15))) (fun t => (t.tri.phase, t.tri.lastOutput)) = some (16, 15) := by decide

/-- R77: reload to 20 with control 0 clears the flag. -/
theorem test_qfTri :
    got (exec .qfTri (withTri { triAt 0 0 0 0 0 with linear := ⟨0, 20, true⟩ })) (fun t => t.tri.linear) =
    some ⟨20, 20, false⟩ := by decide

/-- W5: with control 1 the flag stays set; T-LIN: a counter at 2 without the flag counts to 1. -/
theorem test_qfTri_control :
    got (exec .qfTri (withTri { triAt 0 0 0 0 0 with linear := ⟨0, 3, true⟩, length := ⟨254, true⟩ })) (fun t => t.tri.linear) =
    some ⟨3, 3, true⟩ ∧
    got (exec .qfTri (withTri { triAt 0 0 0 0 0 with linear := ⟨2, 3, false⟩ })) (fun t => t.tri.linear) =
    some ⟨1, 3, false⟩ := by decide

/-- R78: 1 goes to 0. -/
theorem test_hfTri : got (exec .hfTri (withTri (triAt 0 1 0 0 0))) (fun t => t.tri.length.lengthCounter) = some 0 := by decide

/-- R79. -/
theorem test_rstTri : got (exec .rstTri (withTri (triAt 9 9 9 9 9))) (fun t => t.tri) =
    some ⟨⟨0, 0⟩, ⟨0, false⟩, ⟨0, 0, false⟩, 0, 0⟩ := by decide

/-- T-LEN-9: 254 with EN TRI, 0 gives 0; the linear counter stays (R80). -/
theorem test_enTri : got (exec (.enTri false) (withTri (triAt 0 254 7 0 0)))
    (fun t => (t.tri.length.lengthCounter, t.tri.linear.linearCounter)) = some (0, 7) := by decide

/-! ### Noise -/

/-- A noise channel with the given shift register and mode, constant volume 9. -/
def noiAt (shift : BitVec 15) (mode : Bool) (length : Byte) : Noise :=
  ⟨⟨4, 0⟩, ⟨length, false⟩, ⟨true, 9, 9, false, 0, 0⟩, shift, mode⟩

/-- R83: $3F gives halt 1, constant volume 15. -/
theorem test_wr400C : got (exec (.wr400C 0x3F) State.reset)
    (fun t => (t.noi.length.lengthCounterHalt, t.noi.envelope.envelopeEnabled, t.noi.envelope.constantVolume)) =
    some (true, true, 15) := by decide

/-- R84: nothing changes. -/
theorem test_wr400D : got (exec (.wr400D 0x55) State.reset) id = some State.reset := by decide

/-- R85: $83 gives mode 1, period 32 with the reference table. -/
theorem test_wr400E : got (exec (.wr400E 0x83) State.reset) (fun t => (t.noi.timerMode, t.noi.timer.timerPeriod)) =
    some (true, 32) := by decide

/-- R86: $18 loads 2 and sets envelopeReset. -/
theorem test_wr400F : got (exec (.wr400F 0x18) State.reset)
    (fun t => (t.noi.length.lengthCounter, t.noi.envelope.envelopeReset)) = some (2, true) := by decide

/-- T-NOI-3: $0041 gives $0020 in mode 1 and $4020 in mode 0. -/
theorem test_stepNoi :
    got (exec .stepNoi (withNoi (noiAt 0x0041 true 2))) (fun t => (t.noi.shiftRegister, t.noi.timer.timerCycle)) = some (0x0020, 4) ∧
    got (exec .stepNoi (withNoi (noiAt 0x0041 false 2))) (fun t => t.noi.shiftRegister) = some 0x4020 := by decide

/-- R87: without a tick the register stays. -/
theorem test_stepNoi_no_tick :
    got (exec .stepNoi (withNoi { noiAt 0x0041 false 2 with timer := ⟨4, 4⟩ }))
      (fun t => (t.noi.shiftRegister, t.noi.timer.timerCycle)) = some (0x0041, 3) := by decide

/-- R88, R89, R90, R91. -/
theorem test_noise_hooks :
    got (exec .qfNoi (withNoi { noiAt 1 false 2 with envelope := ⟨true, 9, 9, true, 0, 0⟩ }))
      (fun t => t.noi.envelope.envelopeVolume) = some 15 ∧
    got (exec .hfNoi (withNoi (noiAt 1 false 2))) (fun t => t.noi.length.lengthCounter) = some 1 ∧
    got (exec .rstNoi (withNoi (noiAt 0x2410 true 2))) (fun t => t.noi) =
      some ⟨⟨0, 0⟩, ⟨0, false⟩, ⟨false, 0, 0, false, 0, 0⟩, 1, false⟩ ∧
    got (exec (.enNoi false) (withNoi (noiAt 1 false 2))) (fun t => t.noi.length.lengthCounter) = some 0 := by decide

/-! ### DMC -/

/-- A DMC that plays: level, register, bits, and `left` bytes from `index` with an empty buffer. -/
def dmcAt (level : BitVec 7) (sr : Byte) (bits : BitVec 4) (index : Addr) (left : BitVec 12) : Dmc :=
  { Dmc.initial with
    timer := ⟨54, 0⟩
    output := level
    shiftRegister := sr
    shiftRegisterBits := bits
    sampleIndex := index
    sampleLeft := left
    irqEnabled := true }

/-- R93: $8F gives irqEnabled 1, loop 0, period 54 with the reference table; a latched irq stays (T-DMC-10). -/
theorem test_wr4010 : got (exec (.wr4010 0x8F) (withDmc { Dmc.initial with irq := true } []))
    (fun t => (t.dmc.irqEnabled, t.dmc.sampleLoop, t.dmc.timer.timerPeriod, t.dmc.irq)) = some (true, false, 54, true) := by decide

/-- R94: $FF gives 127; T-DMC-14: $85 gives 5. -/
theorem test_wr4011 :
    got (exec (.wr4011 0xFF) State.reset) (fun t => t.dmc.output) = some 127 ∧
    got (exec (.wr4011 0x85) State.reset) (fun t => t.dmc.output) = some 5 := by decide

/-- R95: $FF gives $FFC0; the cursor stays (T-DMC-9). -/
theorem test_wr4012 : got (exec (.wr4012 0xFF) State.reset) (fun t => (t.dmc.sampleAddress, t.dmc.sampleIndex)) =
    some (0xFFC0, 0xC000) := by decide

/-- R96: $01 gives 17 bytes and restarts the cursor. -/
theorem test_wr4013 : got (exec (.wr4013 0x01) (withDmc { Dmc.initial with sampleAddress := 0xC400 } []))
    (fun t => (t.dmc.sampleLength, t.dmc.sampleLeft, t.dmc.sampleIndex)) = some (17, 17, 0xC400) := by decide

/-- R97's wrap example: the read at $FFFF leaves the cursor at $8000 and one byte. -/
theorem test_stepDmc_wraps : got (exec .stepDmc (withDmc (dmcAt 0 0 0 0xFFFF 2) [0xAA]))
    (fun t => (t.dmc.sampleIndex, t.dmc.sampleLeft, t.dmc.irq, t.events)) =
    some (0x8000, 1, false, [.fetch 0xFFFF]) := by decide

/-- T-DMC-1's first step: fetch, irq, and the byte enters the shift register in the same step. -/
theorem test_stepDmc_first : got (exec .stepDmc (withDmc { dmcAt 0 0 0 0xC000 1 with timer := ⟨428, 0⟩ } [0xAA]))
    (fun t => (t.dmc.timer.timerCycle, t.dmc.sampleIndex, t.dmc.sampleLeft)) = some (428, 0xC001, 0) ∧
    got (exec .stepDmc (withDmc { dmcAt 0 0 0 0xC000 1 with timer := ⟨428, 0⟩ } [0xAA]))
    (fun t => (t.dmc.sampleBuffer, t.dmc.shiftRegister, t.dmc.shiftRegisterBits, t.dmc.irq)) =
    some (none, 0xAA, 8, true) := by decide

/-- T-DMC-4 and T-DMC-5: the level saturates; R98's example: 64 goes to 66. -/
theorem test_dmc_level : dmcLevel true 126 = 127 ∧ dmcLevel false 1 = 0 ∧ dmcLevel true 64 = 66 ∧ dmcLevel false 66 = 64 := by
  decide

/-- T-DMC-7: a looping sample restarts at $C040 and never latches irq. -/
theorem test_dmc_loop :
    (dmcFetched { dmcAt 0 0 0 0xC040 1 with sampleLoop := true, sampleAddress := 0xC040 } 0xFF).sampleLeft = 1 ∧
    (dmcFetched { dmcAt 0 0 0 0xC040 1 with sampleLoop := true, sampleAddress := 0xC040 } 0xFF).sampleIndex = 0xC040 ∧
    (dmcFetched { dmcAt 0 0 0 0xC040 1 with sampleLoop := true, sampleAddress := 0xC040 } 0xFF).irq = false := by decide

/-- T-DMC-11, T-DMC-12, T-DMC-13. -/
theorem test_dmc_hooks :
    got (exec .ackDmc (withDmc { Dmc.initial with irq := true } [])) (fun t => t.dmc.irq) = some false ∧
    got (exec .rstDmc (withDmc { dmcAt 9 9 9 9 9 with irq := true } [])) (fun t => t.dmc) = some Dmc.initial ∧
    got (exec .qfDmc State.reset) id = some State.reset ∧ got (exec .hfDmc State.reset) id = some State.reset := by decide

/-! ### Observations -/

/-- R70's example: length 30, period $1FD, shift 0, duty 2, constant volume 15; phase 1 gives 15, phase 5 gives 0. -/
def noteAt (phase : BitVec 3) (negateMode : Bool) : Pulse :=
  { pulseAt 0x1FD 0 negateMode with length := ⟨30, false⟩, envelope := ⟨true, 15, 15, false, 0, 0⟩, duty := 2, phase := phase }

theorem test_outP1_outP2 :
    got (exec .outP1 (pulses (noteAt 1 true) (noteAt 5 false))) (fun t => t.results) = some [15] ∧
    got (exec .outP2 (pulses (noteAt 1 true) (noteAt 5 false))) (fun t => t.results) = some [0] := by decide

/-- T-SWP-8: period 7 with shift 0 mutes although the sweep is disabled; T-SWP-9: 16 negated is 7 on P1 and 8 on P2. -/
theorem test_sweep_mute :
    sweepMuted (pulseAt 7 0 true) = true ∧ sweepMuted (pulseAt 8 0 true) = false ∧
    sweepTarget { pulseAt 16 0 true with sweep := ⟨false, 0, true, 1, false, 0⟩ } = 7 ∧
    sweepTarget { pulseAt 16 0 false with sweep := ⟨false, 0, true, 1, false, 0⟩ } = 8 := by decide

/-- R81: phase 20, period 100 gives 11; T-TRI-2: ultrasonic gives the held 3; T-TRI-8: length 0 gives 0. -/
theorem test_outTri :
    got (exec .outTri (withTri (triAt 100 1 1 20 0))) (fun t => t.results) = some [11] ∧
    got (exec .outTri (withTri (triAt 1 1 1 20 3))) (fun t => t.results) = some [3] ∧
    got (exec .outTri (withTri (triAt 100 0 3 20 3))) (fun t => t.results) = some [0] := by decide

/-- R92: $4000 with length 2 gives 9; T-NOI-7: $4001 gives 0. R104: the level 64. -/
theorem test_outNoi_outDmc :
    got (exec .outNoi (withNoi (noiAt 0x4000 false 2))) (fun t => t.results) = some [9] ∧
    got (exec .outNoi (withNoi (noiAt 0x4001 false 2))) (fun t => t.results) = some [0] ∧
    got (exec .outDmc (withDmc { Dmc.initial with output := 64 } [])) (fun t => t.results) = some [64] := by decide

/-- T-LEN-7 (1 gives 1), R108 (0 gives 0 and 0), R40. -/
theorem test_len_enq :
    got (exec .lenP1 (pulses (noteAt 1 true) (noteAt 1 false))) (fun t => t.results) = some [30] ∧
    got (exec .lenP2 State.reset) (fun t => t.results) = some [0] ∧
    got (exec .lenTri (withTri (triAt 0 254 0 0 0))) (fun t => t.results) = some [254] ∧
    got (exec .lenNoi (withNoi (noiAt 1 false 2))) (fun t => t.results) = some [2] ∧
    got (exec .enqP1 (pulses (noteAt 1 true) (noteAt 1 false))) (fun t => t.results) = some [1] ∧
    got (exec .enqP2 State.reset) (fun t => t.results) = some [0] ∧
    got (exec .enqTri (withTri (triAt 0 1 0 0 0))) (fun t => t.results) = some [1] ∧
    got (exec .enqNoi State.reset) (fun t => t.results) = some [0] := by decide

/-- R45's example (9, not 3), R109 (7), T-OBS-6 (9 with length 0). -/
theorem test_vol :
    got (exec .volP1 (pulses { pulseAt 0 0 true with envelope := ⟨false, 3, 3, false, 0, 9⟩ } (pulseAt 0 0 false)))
      (fun t => t.results) = some [9] ∧
    got (exec .volP2 (pulses (pulseAt 0 0 true) { pulseAt 0 0 false with envelope := ⟨true, 7, 7, false, 0, 0⟩ }))
      (fun t => t.results) = some [7] ∧
    got (exec .volNoi (withNoi (noiAt 1 false 0))) (fun t => t.results) = some [9] := by decide

/-- R110: the read returns 1 and irq stays 1. -/
theorem test_irqDmc : got (exec .irqDmc (withDmc { Dmc.initial with irq := true } []))
    (fun t => (t.results, t.dmc.irq)) = some ([1], true) := by decide

/-- T-OBS-3: outputs 15, 0, 7, 0, 64 give 86. -/
theorem test_mix : got (exec .mix
    { pulses (noteAt 1 true) (noteAt 5 false) with
      tri := triAt 100 1 1 7 0, noi := noiAt 1 false 2, dmc := { Dmc.initial with output := 64 } })
    (fun t => t.results) = some [86] := by decide

end Sys2Proof.Tests
end

