-- ==== Sys2Proof/Tests/Witnesses.lean ====
section
/-! SUPPORT. For every statement with hypotheses, a concrete state and operands that meet all of them together; one per clause, at a
boundary value where the clause has a range. -/

namespace Sys2Proof.Tests

open Sys2Proof.Machine

/-- The reset state with one operation word in the driver's script. -/
def scripted (w : Word) : State := { State.reset with script := [w] }

theorem witness_StepRunsDecodedOperation :
    (scripted 0x10400000).script[(scripted 0x10400000).position]? = some 0x10400000 ∧
    decode 0x10400000 = .ok .stepP1 := ⟨rfl, rfl⟩

theorem witness_StepRefusesWordOfNoRow :
    (scripted 0x90000000).script[(scripted 0x90000000).position]? = some 0x90000000 ∧
    ∀ r ∈ opcodeTable, r.matchesWord 0x90000000 = false := ⟨rfl, by decide⟩

theorem witness_StepStopsAfterLastOperation : State.reset.script.length ≤ State.reset.position := by decide

theorem witness_EncodeOfDecode : decode 0x50400C01 = .ok (.enNoi true) := rfl

theorem witness_ConstructionChecksNegateMode :
    (((1 : Nat) = 0 ∨ (1 : Nat) = 1) ∧ ((0 : Nat) = 0 ∨ (0 : Nat) = 1)) ∧
    ¬(((2 : Nat) = 0 ∨ (2 : Nat) = 1) ∧ ((0 : Nat) = 0 ∨ (0 : Nat) = 1)) := by decide

/-- For every statement whose hypothesis is that `exec i s` answers a next state (and, for two of them, the invariant). -/
theorem witness_exec_next :
    exec .rstP1 State.reset = .next (State.reset.setP1 (pulseReset State.reset.p1)) ∧ State.reset.Inv := ⟨rfl, by decide⟩

theorem witness_SweepTargetArithmetic :
    (pulseAt 0 0 true).sweep.sweepShift = 0 ∧
    (let p := { pulseAt 0x7FF 0 true with sweep := ⟨false, 0, false, 7, false, 0⟩ }
     p.sweep.sweepShift ≠ 0 ∧ p.sweep.sweepNegate = false) ∧
    (let p := { pulseAt 0 0 true with sweep := ⟨false, 0, true, 1, false, 0⟩ }
     p.sweep.sweepShift ≠ 0 ∧ p.sweep.sweepNegate = true) := by decide

theorem witness_SweepNeverMovesThePeriodWithoutShift :
    State.reset.p1.sweep.sweepShift = 0 ∧ State.reset.p2.sweep.sweepShift = 0 ∧
    (let s := pulses { pulseAt 8 0 true with sweep := ⟨true, 0, false, 7, true, 0⟩ }
       { pulseAt 8 0 false with sweep := ⟨true, 0, false, 7, true, 0⟩ }
     s.p1.sweep.sweepReset = true ∧ s.p2.sweep.sweepReset = true) := by decide

theorem witness_TriangleStepMovesPhaseAndHold :
    (let s := withTri (triAt 2 1 1 31 0)
     (s.tri.timer.timerCycle = 0 ∧ s.tri.length.lengthCounter ≠ 0 ∧ s.tri.linear.linearCounter ≠ 0) ∧
     2 ≤ s.tri.timer.timerPeriod.toNat) ∧
    (let s := withTri (triAt 1 0 1 31 0)
     ¬(s.tri.timer.timerCycle = 0 ∧ s.tri.length.lengthCounter ≠ 0 ∧ s.tri.linear.linearCounter ≠ 0) ∧
     s.tri.timer.timerPeriod.toNat < 2) := by decide

theorem witness_DmcStepFetchesWhenTheBufferIsEmpty :
    (let s := withDmc (dmcAt 0 0 0 0xFFFF 2) []
     fetchDue s.dmc ∧ s.dmc.sampleLeft ≠ 1) ∧
    (let s := withDmc { dmcAt 0 0 0 0xFFFF 1 with sampleLoop := true } [0xFF]
     fetchDue s.dmc ∧ s.dmc.sampleLeft = 1 ∧ s.dmc.sampleLoop = true) ∧
    (let s := withDmc (dmcAt 0 0 0 0xC000 1) [0xFF]
     fetchDue s.dmc ∧ s.dmc.sampleLeft = 1 ∧ s.dmc.sampleLoop = false) ∧
    ¬fetchDue State.reset.dmc ∧
    ¬fetchDue { dmcAt 0 0 0 0xC000 1 with sampleBuffer := some 0 } := by decide

theorem witness_DmcStepPlaysOneBitPerTick :
    (withDmc { dmcAt 0 0 8 0xC000 0 with timer := ⟨54, 1⟩ } []).dmc.timer.timerCycle ≠ 0 ∧
    (let s := withDmc (dmcAt 127 1 1 0xC000 1) [0xAA]
     s.dmc.timer.timerCycle = 0 ∧ bufferAfterReader s = some 0xAA ∧ s.dmc.shiftRegisterBits.toNat ≤ 1) ∧
    (let s := withDmc (dmcAt 0 0 0 0xC000 0) []
     s.dmc.timer.timerCycle = 0 ∧ bufferAfterReader s = none) ∧
    (let s := withDmc (dmcAt 1 0 2 0xC000 1) [0xAA]
     s.dmc.timer.timerCycle = 0 ∧ 1 < s.dmc.shiftRegisterBits.toNat) := by decide

/-- The latch falls at ACK DMC. -/
theorem witness_IrqLatchChangesOnlyWhereTheSpecSays_falls :
    let s := withDmc { Dmc.initial with irq := true } []
    exec .ackDmc s = .next (s.setDmc (dmcAck s.dmc)) ∧ s.dmc.irq = true ∧ (s.setDmc (dmcAck s.dmc)).dmc.irq = false :=
  ⟨rfl, rfl, rfl⟩

/-- The latch rises at the fetch of the last byte. -/
theorem witness_IrqLatchChangesOnlyWhereTheSpecSays_rises :
    let s := withDmc (dmcAt 0 0 0 0xC000 1) [0xAA]
    exec .stepDmc s = .next (dmcStep s) ∧ s.dmc.irq = false ∧ (dmcStep s).dmc.irq = true := ⟨rfl, rfl, by decide⟩

theorem witness_OnlyDmcStepReadsTheBus :
    let s := withDmc (dmcAt 0 0 0 0xFFFF 1) [0xAA]
    s.Inv ∧ exec .stepDmc s = .next (dmcStep s) := ⟨by decide, rfl⟩

theorem witness_ObservationsArePure : isObservation .mix = true := rfl

theorem witness_ChannelsAreIsolated :
    exec .ackDmc State.reset = .next (State.reset.setDmc (dmcAck State.reset.dmc)) ∧
    operationChannel .ackDmc ≠ some .p1 ∧ operationChannel .ackDmc ≠ some .p2 ∧
    operationChannel .ackDmc ≠ some .tri ∧ operationChannel .ackDmc ≠ some .noi ∧
    exec .mix State.reset = .next (State.reset.observe (mixSum State.reset)) ∧
    operationChannel .mix ≠ some .dmc := ⟨rfl, by decide, by decide, by decide, by decide, rfl, by decide⟩

theorem witness_DifferentChannelsCommute :
    operationChannel .stepDmc = some .dmc ∧ operationChannel (.wr4003 0xF9) = some .p1 ∧
    Channel.dmc ≠ Channel.p1 := by decide

theorem witness_EveryOperationCompletesAndKeepsTheInvariant : State.reset.Inv := by decide

theorem witness_StepKeepsTheInvariant :
    (scripted 0x80000000).Inv ∧
    step (scripted 0x80000000) = .next ((scripted 0x80000000).advance.observe (mixSum (scripted 0x80000000).advance)) :=
  ⟨by decide, rfl⟩

theorem witness_WaveformsRepeat :
    (let s := pulses (pulseAt 0x7FF 0x7FF true) (pulseAt 0 0 false)
     s.p1.timer.timerCycle.toNat ≤ s.p1.timer.timerPeriod.toNat ∧
     s.p2.timer.timerCycle.toNat ≤ s.p2.timer.timerPeriod.toNat) ∧
    (let s := withTri (triAt 2 1 1 31 0)
     2 ≤ s.tri.timer.timerPeriod.toNat ∧ s.tri.timer.timerCycle.toNat ≤ s.tri.timer.timerPeriod.toNat ∧
     s.tri.length.lengthCounter ≠ 0 ∧ s.tri.linear.linearCounter ≠ 0 ∧
     s.tri.lastOutput = triSequence s.tri.phase) := by decide

theorem witness_EnvelopeDecayLaw :
    let e : Envelope := ⟨false, 2, 2, true, 0, 5⟩
    let s := pulses { pulseAt 0 0 true with envelope := e, length := ⟨1, true⟩ } { pulseAt 0 0 false with envelope := e }
    let n := { State.reset with noi.envelope := ⟨false, 15, 15, true, 0, 0⟩ }
    (s.p1.envelope.envelopeReset = true ∧ s.p1.length.lengthCounterHalt = true) ∧
    (s.p2.envelope.envelopeReset = true ∧ s.p2.length.lengthCounterHalt = false) ∧
    n.noi.envelope.envelopeReset = true := by decide

theorem witness_LinearCounterDepletesOrReloads :
    (let s := withTri { triAt 0 1 0 0 0 with linear := ⟨0, 127, true⟩ }
     s.tri.linear.linearCounterReset = true ∧ s.tri.length.lengthCounterHalt = false) ∧
    (let s := withTri { triAt 0 1 0 0 0 with linear := ⟨0, 0, true⟩, length := ⟨1, true⟩ }
     s.tri.linear.linearCounterReset = true ∧ s.tri.length.lengthCounterHalt = true) := by decide

end Sys2Proof.Tests
end

section
/-! # What one operation can do to the state, and the two statements of the spec's scope that follow

Every operation replaces the record of the channel it names, with a bus read first in one case of STEP DMC, or returns one value.
`OperationEffect` lists these effects and `exec_effect` derives them from the laws of `exec`; what an operation leaves
unchanged is then read off the list. -/

namespace Sys2Proof.Machine

/-- What an operation that names the channel `o` (`none` for MIX) may make of the state `s`. A pulse record that replaces another keeps its
`negateMode` (spec R7, R68). -/
inductive OperationEffect (s : State) : Option Channel → State → Prop where
  | setP1 (c : Pulse) (h : c.negateMode = s.p1.negateMode) : OperationEffect s (some .p1) (s.setP1 c)
  | setP2 (c : Pulse) (h : c.negateMode = s.p2.negateMode) : OperationEffect s (some .p2) (s.setP2 c)
  | setTri (c : Triangle) : OperationEffect s (some .tri) (s.setTri c)
  | setNoi (c : Noise) : OperationEffect s (some .noi) (s.setNoi c)
  | setDmc (c : Dmc) : OperationEffect s (some .dmc) (s.setDmc c)
  /-- STEP DMC with a fetch due (spec R19, R97). -/
  | fetchDmc (e : Event) (c : Dmc) : OperationEffect s (some .dmc) ((s.busTaken.emit e).setDmc c)
  | observe (o : Option Channel) (n : Nat) : OperationEffect s o (s.observe n)

/-! ### Every operation has such an effect -/

theorem operationChannel_eq_none {i : Instr} (h : operationChannel i = none) : i = .mix := by
  cases i with
  | mix => rfl
  | _ => cases h

theorem pulseHalf_negateMode (p : Pulse) : (pulseHalf p).negateMode = p.negateMode := by
  unfold pulseHalf
  rw [sweepHalf_eq]
  rfl

theorem exec_p1_effect {i : Instr} {s t : State} (hc : operationChannel i = some .p1) (h : exec i s = .next t) :
    OperationEffect s (some .p1) t := by
  cases i with
  | hfP1 => cases h; exact .setP1 _ (pulseHalf_negateMode s.p1)
  | wr4000 _ | wr4001 _ | wr4002 _ | wr4003 _ | stepP1 | qfP1 | rstP1 | enP1 _ => cases h; exact .setP1 _ rfl
  | outP1 | lenP1 | enqP1 | volP1 => cases h; exact .observe _ _
  | _ => cases hc

theorem exec_p2_effect {i : Instr} {s t : State} (hc : operationChannel i = some .p2) (h : exec i s = .next t) :
    OperationEffect s (some .p2) t := by
  cases i with
  | hfP2 => cases h; exact .setP2 _ (pulseHalf_negateMode s.p2)
  | wr4004 _ | wr4005 _ | wr4006 _ | wr4007 _ | stepP2 | qfP2 | rstP2 | enP2 _ => cases h; exact .setP2 _ rfl
  | outP2 | lenP2 | enqP2 | volP2 => cases h; exact .observe _ _
  | _ => cases hc

theorem dmcStep_effect (s : State) : OperationEffect s (some .dmc) (dmcStep s) := by
  unfold dmcStep
  obtain ⟨-, hr⟩ | ⟨-, hr⟩ := memoryReader_cases s <;> rw [hr]
  · exact .setDmc _
  · exact .fetchDmc _ _

theorem exec_dmc_effect {i : Instr} {s t : State} (hc : operationChannel i = some .dmc) (h : exec i s = .next t) :
    OperationEffect s (some .dmc) t := by
  by_cases hs : i = .stepDmc
  · subst hs; cases h; exact dmcStep_effect s
  · obtain ⟨f, hf⟩ | ⟨g, hg⟩ := exec_dmc_cases hc hs
    · cases (hf s).symm.trans h; exact .setDmc _
    · cases (hg s).symm.trans h; exact .observe _ _

theorem exec_effect {i : Instr} {s t : State} (h : exec i s = .next t) :
    OperationEffect s (operationChannel i) t := by
  cases hc : operationChannel i with
  | none =>
    obtain rfl := operationChannel_eq_none hc
    cases (exec_mix s).symm.trans h; exact .observe _ _
  | some c =>
    cases c with
    | p1 => exact exec_p1_effect hc h
    | p2 => exact exec_p2_effect hc h
    | tri =>
      obtain ⟨f, hf⟩ | ⟨g, hg⟩ := exec_tri_cases hc
      · cases (hf s).symm.trans h; exact .setTri _
      · cases (hg s).symm.trans h; exact .observe _ _
    | noi =>
      obtain ⟨f, hf⟩ | ⟨g, hg⟩ := exec_noi_cases hc
      · cases (hf s).symm.trans h; exact .setNoi _
      · cases (hg s).symm.trans h; exact .observe _ _
    | dmc => exact exec_dmc_effect hc h

/-! ### What the effects leave unchanged -/

section
variable {s t : State} {o : Option Channel} (he : OperationEffect s o t)
include he

theorem OperationEffect.p1_negateMode : t.p1.negateMode = s.p1.negateMode := by
  cases he with
  | setP1 c h => exact h
  | _ => rfl

theorem OperationEffect.p2_negateMode : t.p2.negateMode = s.p2.negateMode := by
  cases he with
  | setP2 c h => exact h
  | _ => rfl

theorem OperationEffect.tables_script_position :
    t.tables = s.tables ∧ t.script = s.script ∧ t.position = s.position := by
  cases he <;> simp

theorem OperationEffect.p1_of_ne (ho : o ≠ some .p1) : t.p1 = s.p1 := by
  cases he with
  | setP1 => exact absurd rfl ho
  | _ => rfl

theorem OperationEffect.p2_of_ne (ho : o ≠ some .p2) : t.p2 = s.p2 := by
  cases he with
  | setP2 => exact absurd rfl ho
  | _ => rfl

theorem OperationEffect.tri_of_ne (ho : o ≠ some .tri) : t.tri = s.tri := by
  cases he with
  | setTri => exact absurd rfl ho
  | _ => rfl

theorem OperationEffect.noi_of_ne (ho : o ≠ some .noi) : t.noi = s.noi := by
  cases he with
  | setNoi => exact absurd rfl ho
  | _ => rfl

theorem OperationEffect.dmc_events_bus_of_ne (ho : o ≠ some .dmc) :
    t.dmc = s.dmc ∧ t.events = s.events ∧ t.busAnswers = s.busAnswers ∧ t.busReads = s.busReads := by
  cases he with
  | setDmc | fetchDmc => exact absurd rfl ho
  | _ => simp

end

/-! ### The obligations -/

/-- Settles O13: no effect of an operation touches the constants. -/
theorem constructionConstantsNeverChange : Obligations.ConstructionConstantsNeverChange := by
  intro i s t h
  have he := exec_effect h
  exact ⟨he.p1_negateMode, he.p2_negateMode, he.tables_script_position⟩

/-- Settles O50: the effect of an operation is on the channel it names alone, and only a DMC effect touches events or the bus. -/
theorem channelsAreIsolated : Obligations.ChannelsAreIsolated := by
  intro i s t h
  have he := exec_effect h
  exact ⟨he.p1_of_ne, he.p2_of_ne, he.tri_of_ne, he.noi_of_ne, he.dmc_events_bus_of_ne⟩

end Sys2Proof.Machine
end

section
/-! # What one operation makes of each channel's record, and the invariant of R14 that follows

`PulseChange`, `TriangleChange`, `NoiseChange` and `DmcChange` list the records that one operation can make of a channel's record;
`exec_p1_change` to `exec_dmc_change` derive from the meanings of the operations that nothing else happens to it. The invariant of R14 (O53)
and its part (c) about the timers (O54) are then read off the lists, P1 and P2 by the same lemma. -/

namespace Sys2Proof.Machine

/-- What one operation may make of a pulse record (spec 45_pulse.md). -/
inductive PulseChange (t : Tables) (p : Pulse) : Pulse → Prop where
  | volumeWrite (v : Byte) : PulseChange t p (pulseVolumeWrite p v)
  | sweepWrite (v : Byte) : PulseChange t p (pulseSweepWrite p v)
  | timerLowWrite (v : Byte) : PulseChange t p (pulseTimerLowWrite p v)
  | lengthWrite (v : Byte) : PulseChange t p (pulseLengthWrite t p v)
  | clock : PulseChange t p (pulseStep p)
  | quarter : PulseChange t p (pulseQuarter p)
  | half : PulseChange t p (pulseHalf p)
  | reset : PulseChange t p (pulseReset p)
  | enable (b : Bool) : PulseChange t p (pulseEnable p b)
  | keep : PulseChange t p p

/-- What one operation may make of the triangle's record (spec 46_triangle.md). -/
inductive TriangleChange (t : Tables) (c : Triangle) : Triangle → Prop where
  | counterWrite (v : Byte) : TriangleChange t c (triangleCounterWrite c v)
  | timerLowWrite (v : Byte) : TriangleChange t c (triangleTimerLowWrite c v)
  | lengthWrite (v : Byte) : TriangleChange t c (triangleLengthWrite t c v)
  | clock : TriangleChange t c (triangleStep c)
  | quarter : TriangleChange t c (triangleQuarter c)
  | half : TriangleChange t c (triangleHalf c)
  | reset : TriangleChange t c (triangleReset c)
  | enable (b : Bool) : TriangleChange t c (triangleEnable c b)
  | keep : TriangleChange t c c

/-- What one operation may make of the noise record (spec 47_noise.md). -/
inductive NoiseChange (t : Tables) (c : Noise) : Noise → Prop where
  | volumeWrite (v : Byte) : NoiseChange t c (noiseVolumeWrite c v)
  | periodWrite (v : Byte) : NoiseChange t c (noisePeriodWrite t c v)
  | lengthWrite (v : Byte) : NoiseChange t c (noiseLengthWrite t c v)
  | clock : NoiseChange t c (noiseStep c)
  | quarter : NoiseChange t c (noiseQuarter c)
  | half : NoiseChange t c (noiseHalf c)
  | reset : NoiseChange t c (noiseReset c)
  | enable (b : Bool) : NoiseChange t c (noiseEnable c b)
  | keep : NoiseChange t c c

/-- What one operation may make of the DMC's record (spec 48_dmc.md); STEP DMC fetches a byte first when one is due. -/
inductive DmcChange (t : Tables) (d : Dmc) : Dmc → Prop where
  | rateWrite (v : Byte) : DmcChange t d (dmcRateWrite t d v)
  | levelWrite (v : Byte) : DmcChange t d (dmcLevelWrite d v)
  | addressWrite (v : Byte) : DmcChange t d (dmcAddressWrite d v)
  | lengthWrite (v : Byte) : DmcChange t d (dmcLengthWrite d v)
  | clock (h : ¬fetchDue d) : DmcChange t d (dmcClock d)
  | fetchThenClock (h : fetchDue d) (b : Byte) : DmcChange t d (dmcClock (dmcFetched d b))
  | reset : DmcChange t d (dmcReset d)
  | ack : DmcChange t d (dmcAck d)
  | keep : DmcChange t d d

/-! ### Every operation makes such a change of every channel -/

theorem dmcStep_change (s : State) : DmcChange s.tables s.dmc (dmcStep s).dmc := by
  unfold dmcStep
  obtain ⟨hd, hr⟩ | ⟨hd, hr⟩ := memoryReader_cases s <;> rw [hr]
  · exact .clock hd
  · exact .fetchThenClock hd (answeredByte s)

section
variable {i : Instr} {s t : State} (h : exec i s = .next t)
include h

theorem exec_p1_change : PulseChange s.tables s.p1 t.p1 := by
  by_cases hc : operationChannel i = some .p1
  · cases i with
    | wr4000 v => cases h; exact .volumeWrite v
    | wr4001 v => cases h; exact .sweepWrite v
    | wr4002 v => cases h; exact .timerLowWrite v
    | wr4003 v => cases h; exact .lengthWrite v
    | stepP1 => cases h; exact .clock
    | qfP1 => cases h; exact .quarter
    | hfP1 => cases h; exact .half
    | rstP1 => cases h; exact .reset
    | enP1 b => cases h; exact .enable b
    | outP1 | lenP1 | enqP1 | volP1 => cases h; exact .keep
    | _ => cases hc
  · rw [(exec_effect h).p1_of_ne hc]; exact .keep

theorem exec_p2_change : PulseChange s.tables s.p2 t.p2 := by
  by_cases hc : operationChannel i = some .p2
  · cases i with
    | wr4004 v => cases h; exact .volumeWrite v
    | wr4005 v => cases h; exact .sweepWrite v
    | wr4006 v => cases h; exact .timerLowWrite v
    | wr4007 v => cases h; exact .lengthWrite v
    | stepP2 => cases h; exact .clock
    | qfP2 => cases h; exact .quarter
    | hfP2 => cases h; exact .half
    | rstP2 => cases h; exact .reset
    | enP2 b => cases h; exact .enable b
    | outP2 | lenP2 | enqP2 | volP2 => cases h; exact .keep
    | _ => cases hc
  · rw [(exec_effect h).p2_of_ne hc]; exact .keep

theorem exec_tri_change : TriangleChange s.tables s.tri t.tri := by
  by_cases hc : operationChannel i = some .tri
  · cases i with
    | wr4008 v => cases h; exact .counterWrite v
    | wr400A v => cases h; exact .timerLowWrite v
    | wr400B v => cases h; exact .lengthWrite v
    | stepTri => cases h; exact .clock
    | qfTri => cases h; exact .quarter
    | hfTri => cases h; exact .half
    | rstTri => cases h; exact .reset
    | enTri b => cases h; exact .enable b
    | wr4009 _ | outTri | lenTri | enqTri => cases h; exact .keep
    | _ => cases hc
  · rw [(exec_effect h).tri_of_ne hc]; exact .keep

theorem exec_noi_change : NoiseChange s.tables s.noi t.noi := by
  by_cases hc : operationChannel i = some .noi
  · cases i with
    | wr400C v => cases h; exact .volumeWrite v
    | wr400E v => cases h; exact .periodWrite v
    | wr400F v => cases h; exact .lengthWrite v
    | stepNoi => cases h; exact .clock
    | qfNoi => cases h; exact .quarter
    | hfNoi => cases h; exact .half
    | rstNoi => cases h; exact .reset
    | enNoi b => cases h; exact .enable b
    | wr400D _ | outNoi | lenNoi | enqNoi | volNoi => cases h; exact .keep
    | _ => cases hc
  · rw [(exec_effect h).noi_of_ne hc]; exact .keep

theorem exec_dmc_change : DmcChange s.tables s.dmc t.dmc := by
  by_cases hc : operationChannel i = some .dmc
  · cases i with
    | wr4010 v => cases h; exact .rateWrite v
    | wr4011 v => cases h; exact .levelWrite v
    | wr4012 v => cases h; exact .addressWrite v
    | wr4013 v => cases h; exact .lengthWrite v
    | stepDmc => cases h; exact dmcStep_change s
    | rstDmc => cases h; exact .reset
    | ackDmc => cases h; exact .ack
    | qfDmc | hfDmc | outDmc | irqDmc => cases h; exact .keep
    | _ => cases hc
  · rw [((exec_effect h).dmc_events_bus_of_ne hc).1]; exact .keep

end

/-! ### The timers: R14(c) -/

/-- The timer `t'` counts from no more than the timer `t` held or was to be reloaded with (spec R14(c), R34). -/
abbrev Timer.CycleWithin {w : Nat} (t t' : Timer w) : Prop :=
  t'.timerCycle.toNat ≤ max t.timerCycle.toNat t.timerPeriod.toNat

theorem Timer.CycleWithin.of_eq {w : Nat} {t t' : Timer w} (h : t'.timerCycle = t.timerCycle) : t.CycleWithin t' := by
  unfold Timer.CycleWithin
  rw [h]
  exact Nat.le_max_left _ _

theorem timerStep_cycleWithin {w : Nat} (t : Timer w) : t.CycleWithin (timerStep t).1 :=
  timerStep_fst t ▸ clockedTimer_timerCycle_le t

theorem timerReset_cycleWithin {w : Nat} (t : Timer w) : t.CycleWithin (timerReset t) := by
  simp [timerReset]

@[simp] theorem timerLowWrite_timerCycle (t : Timer 11) (v : Byte) : (timerLowWrite t v).timerCycle = t.timerCycle := by
  rw [timerLowWrite_eq]

theorem pulseHalf_eq (p : Pulse) : pulseHalf p = halvedPulse p := by
  unfold pulseHalf
  rw [sweepHalf_eq, lengthHalf_eq]
  rfl

theorem triangleStep_timer (c : Triangle) : (triangleStep c).timer = (timerStep c.timer).1 := by
  unfold triangleStep triangleHold
  split <;> rfl

/-- A bit is played if one remains (spec R98). -/
theorem dmcPlayBit_cases (d : Dmc) :
    (d.shiftRegisterBits = 0 ∧ dmcPlayBit d = d) ∨
    (d.shiftRegisterBits ≠ 0 ∧ dmcPlayBit d =
      { d with
        shiftRegister := d.shiftRegister >>> 1
        shiftRegisterBits := d.shiftRegisterBits - 1
        output := dmcLevel (d.shiftRegister.getLsbD 0) d.output }) := by
  unfold dmcPlayBit
  split
  · next h => exact .inr ⟨h, rfl⟩
  · next h => exact .inl ⟨not_not.1 h, rfl⟩

/-- The shift register is refilled if it has run out and a byte is buffered (spec R98). -/
theorem dmcRefill_cases (d : Dmc) :
    ((d.sampleBuffer = none ∨ d.shiftRegisterBits ≠ 0) ∧ dmcRefill d = d) ∨
    ∃ b, d.sampleBuffer = some b ∧ d.shiftRegisterBits = 0 ∧
      dmcRefill d = { d with shiftRegister := b, shiftRegisterBits := 8, sampleBuffer := none } := by
  unfold dmcRefill
  split
  · next b hb =>
    split
    · next h => exact .inr ⟨b, hb, h, rfl⟩
    · next h => exact .inl ⟨.inr h, rfl⟩
  · next hb => exact .inl ⟨.inl hb, rfl⟩

@[simp] theorem outputUnit_timer (d : Dmc) : (outputUnit d).timer = d.timer := by
  have hplay : (dmcPlayBit d).timer = d.timer := by
    obtain ⟨-, h⟩ | ⟨-, h⟩ := dmcPlayBit_cases d <;> rw [h]
  unfold outputUnit
  obtain ⟨-, h⟩ | ⟨b, -, -, h⟩ := dmcRefill_cases (dmcPlayBit d) <;> rw [h] <;> exact hplay

theorem dmcClock_timer (d : Dmc) : (dmcClock d).timer = (timerStep d.timer).1 := by
  unfold dmcClock
  dsimp only
  split <;> simp

theorem dmcFetched_timer (d : Dmc) (b : Byte) : (dmcFetched d b).timer = d.timer := by
  unfold dmcFetched
  split
  · rfl
  · split <;> rfl

theorem PulseChange.cycleWithin {t : Tables} {p p' : Pulse} (h : PulseChange t p p') : p.timer.CycleWithin p'.timer := by
  cases h with
  | clock => exact timerStep_cycleWithin p.timer
  | reset => exact timerReset_cycleWithin p.timer
  | half => rw [pulseHalf_eq]; exact .of_eq rfl
  | timerLowWrite v => exact .of_eq (timerLowWrite_timerCycle p.timer v)
  | _ => exact .of_eq rfl

theorem TriangleChange.cycleWithin {t : Tables} {c c' : Triangle} (h : TriangleChange t c c') :
    c.timer.CycleWithin c'.timer := by
  cases h with
  | clock => exact triangleStep_timer c ▸ timerStep_cycleWithin c.timer
  | reset => exact timerReset_cycleWithin c.timer
  | timerLowWrite v => exact .of_eq (timerLowWrite_timerCycle c.timer v)
  | _ => exact .of_eq rfl

theorem NoiseChange.cycleWithin {t : Tables} {c c' : Noise} (h : NoiseChange t c c') : c.timer.CycleWithin c'.timer := by
  cases h with
  | clock => exact timerStep_cycleWithin c.timer
  | reset => exact timerReset_cycleWithin c.timer
  | _ => exact .of_eq rfl

theorem DmcChange.cycleWithin {t : Tables} {d d' : Dmc} (h : DmcChange t d d') : d.timer.CycleWithin d'.timer := by
  cases h with
  | clock _ => exact dmcClock_timer d ▸ timerStep_cycleWithin d.timer
  | fetchThenClock _ b =>
    rw [dmcClock_timer, dmcFetched_timer]
    exact timerStep_cycleWithin d.timer
  | reset => exact timerReset_cycleWithin d.timer
  | _ => exact .of_eq rfl

/-! ### The envelopes and the length counters: R14(a), (g) -/

theorem envelopeQuarter_paired (loop : Bool) {e : Envelope} (h : e.Paired) : (envelopeQuarter loop e).Paired := by
  rw [envelopeQuarter_eq]
  exact h

theorem lengthLoad_inRange {t : Tables} (ht : t.Admissible) (l : LengthCounter) (v : Byte) : (lengthLoad t l v).InRange :=
  lengthEntry_le ht (lengthIndexField v)

theorem lengthReset_inRange (l : LengthCounter) : (lengthReset l).InRange := Nat.zero_le _

section
variable {l : LengthCounter} (h : l.InRange)
include h

theorem halvedLength_inRange : (halvedLength l).InRange := by
  unfold LengthCounter.InRange
  rw [halvedLength_toNat]
  exact (Nat.sub_le _ _).trans h

theorem lengthHalf_inRange : (lengthHalf l).InRange := lengthHalf_eq l ▸ halvedLength_inRange h

theorem lengthSetEnabled_inRange (b : Bool) : (lengthSetEnabled l b).InRange := by
  cases b
  · exact Nat.zero_le _
  · exact h

end

/-- The part of R14 that speaks of one pulse record. -/
abbrev Pulse.Inv (p : Pulse) : Prop := p.envelope.Paired ∧ p.length.InRange

theorem PulseChange.keeps_inv {t : Tables} {p p' : Pulse} (h : PulseChange t p p') (ht : t.Admissible) (hp : p.Inv) :
    p'.Inv := by
  obtain ⟨he, hl⟩ := hp
  cases h with
  | volumeWrite v => exact ⟨rfl, hl⟩
  | lengthWrite v => exact ⟨he, lengthLoad_inRange ht p.length v⟩
  | quarter => exact ⟨envelopeQuarter_paired _ he, hl⟩
  | half =>
    rw [pulseHalf_eq]
    exact ⟨he, halvedLength_inRange hl⟩
  | reset => exact ⟨rfl, lengthReset_inRange p.length⟩
  | enable b => exact ⟨he, lengthSetEnabled_inRange hl b⟩
  | sweepWrite _ | timerLowWrite _ | clock | keep => exact ⟨he, hl⟩

theorem triangleStep_length (c : Triangle) : (triangleStep c).length = c.length := by
  unfold triangleStep triangleHold
  split <;> rfl

theorem TriangleChange.keeps_length_inRange {t : Tables} {c c' : Triangle} (h : TriangleChange t c c') (ht : t.Admissible)
    (hl : c.length.InRange) : c'.length.InRange := by
  cases h with
  | lengthWrite v => exact lengthLoad_inRange ht c.length v
  | clock => rw [triangleStep_length]; exact hl
  | half => exact lengthHalf_inRange hl
  | reset => exact lengthReset_inRange c.length
  | enable b => exact lengthSetEnabled_inRange hl b
  | counterWrite _ | timerLowWrite _ | quarter | keep => exact hl

/-! ### The noise shift register: R14(b) -/

/-- A register that the shift right empties held 1, and then the feedback bit that comes in is 1, whatever the mode. -/
theorem noiseShift_ne_zero {c : Noise} (h : c.shiftRegister ≠ 0) : noiseShift c ≠ 0 := by
  intro h0
  obtain ⟨hshift, hfeedback⟩ := BitVec.or_eq_zero_iff.1 h0
  have hone : c.shiftRegister = 1 := by
    have hhalf : c.shiftRegister.toNat / 2 = 0 := by
      rw [← Nat.shiftRight_one, ← BitVec.toNat_ushiftRight, hshift]
      rfl
    have hpos : c.shiftRegister.toNat ≠ 0 := fun h' => h (BitVec.eq_of_toNat_eq h')
    exact BitVec.eq_of_toNat_eq (show c.shiftRegister.toNat = 1 by omega)
  cases hm : c.timerMode <;> simp [noiseFeedback, hone, hm] at hfeedback

/-- The part of R14 that speaks of the noise record. -/
abbrev Noise.Inv (c : Noise) : Prop := c.envelope.Paired ∧ c.shiftRegister ≠ 0 ∧ c.length.InRange

theorem noiseStep_shiftRegister_ne_zero {c : Noise} (h : c.shiftRegister ≠ 0) : (noiseStep c).shiftRegister ≠ 0 := by
  unfold noiseStep
  dsimp only
  split
  · exact noiseShift_ne_zero h
  · exact h

theorem NoiseChange.keeps_inv {t : Tables} {c c' : Noise} (h : NoiseChange t c c') (ht : t.Admissible) (hc : c.Inv) :
    c'.Inv := by
  obtain ⟨he, hr, hl⟩ := hc
  cases h with
  | volumeWrite v => exact ⟨rfl, hr, hl⟩
  | lengthWrite v => exact ⟨he, hr, lengthLoad_inRange ht c.length v⟩
  | clock => exact ⟨he, noiseStep_shiftRegister_ne_zero hr, hl⟩
  | quarter => exact ⟨envelopeQuarter_paired _ he, hr, hl⟩
  | half => exact ⟨he, hr, lengthHalf_inRange hl⟩
  | reset => exact ⟨rfl, (by decide : lfsrReset ≠ 0), lengthReset_inRange c.length⟩
  | enable b => exact ⟨he, hr, lengthSetEnabled_inRange hl b⟩
  | periodWrite _ | keep => exact ⟨he, hr, hl⟩

/-! ### The DMC's addresses and counts: R14(d), (e), (f) -/

theorem toNat_sub_one {w : Nat} {x : BitVec w} (h : x ≠ 0) : (x - 1).toNat = x.toNat - 1 :=
  (congrArg BitVec.toNat (sub_one_eq_ofNat h)).trans (toNat_ofNat_pred x 1)

theorem dmcAddressWrite_inRange {d : Dmc} (h : d.InRange) (v : Byte) : (dmcAddressWrite d v).InRange := by
  obtain ⟨hindex, -, -, -, hlength⟩ := h
  have hv := v.isLt
  have ha := sampleAddressOf_toNat v
  refine ⟨hindex, ?_, ?_, ?_, hlength⟩ <;> dsimp only [dmcAddressWrite] <;> omega

theorem dmcLengthWrite_inRange {d : Dmc} (h : d.InRange) (v : Byte) : (dmcLengthWrite d v).InRange := by
  obtain ⟨-, haddress, haddress', haligned, -, -, -, hbits⟩ := h
  have hv := v.isLt
  have hl := sampleLengthOf_toNat v
  refine ⟨?_, haddress, haddress', haligned, ?_, le_rfl, ?_, hbits⟩ <;> dsimp only [dmcLengthWrite] <;> omega

/-- The reader leaves the cursor in $8000..$FFFF and takes one from the count, which was not 0, or restarts both (spec R97). -/
theorem dmcFetched_inRange {d : Dmc} (h : d.InRange) (hd : fetchDue d) (b : Byte) : (dmcFetched d b).InRange := by
  obtain ⟨hindex, haddress, haddress', haligned, hlength, hleft, hlength', hbits⟩ := h
  have hnext := nextIndex_ge hindex
  have hpred := toNat_sub_one hd.2
  unfold dmcFetched
  split
  · exact ⟨hnext, haddress, haddress', haligned, hlength, by dsimp only; omega, hlength', hbits⟩
  · split
    · exact ⟨by dsimp only; omega, haddress, haddress', haligned, hlength, le_rfl, hlength', hbits⟩
    · exact ⟨hnext, haddress, haddress', haligned, hlength, Nat.zero_le _, hlength', hbits⟩

theorem dmcPlayBit_inRange {d : Dmc} (h : d.InRange) : (dmcPlayBit d).InRange := by
  obtain ⟨-, heq⟩ | ⟨hne, heq⟩ := dmcPlayBit_cases d <;> rw [heq]
  · exact h
  · obtain ⟨hindex, haddress, haddress', haligned, hlength, hleft, hlength', hbits⟩ := h
    have hpred := toNat_sub_one hne
    exact ⟨hindex, haddress, haddress', haligned, hlength, hleft, hlength', by dsimp only; omega⟩

theorem dmcRefill_inRange {d : Dmc} (h : d.InRange) : (dmcRefill d).InRange := by
  obtain ⟨-, heq⟩ | ⟨b, -, -, heq⟩ := dmcRefill_cases d <;> rw [heq]
  · exact h
  · obtain ⟨hindex, haddress, haddress', haligned, hlength, hleft, hlength', -⟩ := h
    exact ⟨hindex, haddress, haddress', haligned, hlength, hleft, hlength', le_rfl⟩

theorem outputUnit_inRange {d : Dmc} (h : d.InRange) : (outputUnit d).InRange :=
  dmcRefill_inRange (dmcPlayBit_inRange h)

theorem dmcClock_inRange {d : Dmc} (h : d.InRange) : (dmcClock d).InRange := by
  unfold dmcClock
  dsimp only
  split
  · exact outputUnit_inRange h
  · exact h

theorem DmcChange.keeps_inRange {t : Tables} {d d' : Dmc} (h : DmcChange t d d') (hd : d.InRange) : d'.InRange := by
  cases h with
  | addressWrite v => exact dmcAddressWrite_inRange hd v
  | lengthWrite v => exact dmcLengthWrite_inRange hd v
  | clock _ => exact dmcClock_inRange hd
  | fetchThenClock hdue b => exact dmcClock_inRange (dmcFetched_inRange hd hdue b)
  | reset => exact (by decide : Dmc.initial.InRange)
  | rateWrite _ | levelWrite _ | ack | keep => exact hd

/-! ### The invariant of R14 -/

/-- R14, sorted by channel. -/
theorem State.inv_iff (s : State) :
    s.Inv ↔ s.tables.Admissible ∧ s.p1.Inv ∧ s.p2.Inv ∧ s.tri.length.InRange ∧ s.noi.Inv ∧ s.dmc.InRange := by
  unfold State.Inv Pulse.Inv Noise.Inv
  tauto

theorem exec_keeps_inv {i : Instr} {s t : State} (h : exec i s = .next t) (hs : s.Inv) : t.Inv := by
  obtain ⟨htables, hp1, hp2, htri, hnoi, hdmc⟩ := s.inv_iff.1 hs
  refine t.inv_iff.2 ⟨?_, (exec_p1_change h).keeps_inv htables hp1, (exec_p2_change h).keeps_inv htables hp2,
    (exec_tri_change h).keeps_length_inRange htables htri, (exec_noi_change h).keeps_inv htables hnoi,
    (exec_dmc_change h).keeps_inRange hdmc⟩
  rw [(exec_effect h).tables_script_position.1]
  exact htables

/-! ### The obligations -/

/-- Settles O53: a step runs one operation on the state with its position moved, and no operation leaves the invariant. -/
theorem stepKeepsTheInvariant : Obligations.StepKeepsTheInvariant := by
  intro s t hs h
  obtain ⟨-, i, -, -, hexec⟩ := step_next_cases h
  exact exec_keeps_inv hexec (show s.advance.Inv from hs)

/-- Settles O54: only a timer step and a reset write a timerCycle, and neither passes the bound. -/
theorem timerCyclesStayWithinTheirReloads : Obligations.TimerCyclesStayWithinTheirReloads := by
  intro i s t h
  exact ⟨(exec_p1_change h).cycleWithin, (exec_p2_change h).cycleWithin,
    (exec_tri_change h).cycleWithin, (exec_noi_change h).cycleWithin, (exec_dmc_change h).cycleWithin⟩

end Sys2Proof.Machine
end

section
/-! # Memory access and ordering (spec 20_memory.md)

`State.part s c` is all that an operation naming the channel `c` may write, the returned values aside. `exec_part_of_ne` says that the other
operations leave it, `exec_part_congr` that what an operation makes of it depends on the tables and on that part alone. That operations
on different channels commute (R20) needs nothing else. What STEP DMC makes of the DMC's part also says which bus reads there are (R19). -/

namespace Sys2Proof.Machine

/-- What a channel owns: its record, and for the DMC also the event record and the bus (spec R1, R19). -/
def ChannelPart : Channel → Type
  | .p1 | .p2 => Pulse
  | .tri => Triangle
  | .noi => Noise
  | .dmc => Dmc × List Event × List Byte × Nat

/-- The part of the state that the channel owns. -/
def State.part (s : State) : (c : Channel) → ChannelPart c
  | .p1 => s.p1
  | .p2 => s.p2
  | .tri => s.tri
  | .noi => s.noi
  | .dmc => (s.dmc, s.events, s.busAnswers, s.busReads)

theorem State.part_dmc_eq_iff {s t : State} : s.part .dmc = t.part .dmc ↔
    s.dmc = t.dmc ∧ s.events = t.events ∧ s.busAnswers = t.busAnswers ∧ s.busReads = t.busReads := by
  simp only [State.part, ChannelPart, Prod.mk.injEq]

/-- The channels' parts, the constants and the returned values are the whole state. -/
theorem sameButResults_of_parts {s t : State} (hparts : ∀ c, s.part c = t.part c)
    (hconst : s.tables = t.tables ∧ s.script = t.script ∧ s.position = t.position) : sameButResults s t := by
  obtain ⟨htables, hscript, hposition⟩ := hconst
  obtain ⟨hdmc, hevents, hanswers, hreads⟩ := State.part_dmc_eq_iff.1 (hparts .dmc)
  have hp1 : s.p1 = t.p1 := hparts .p1
  have hp2 : s.p2 = t.p2 := hparts .p2
  have htri : s.tri = t.tri := hparts .tri
  have hnoi : s.noi = t.noi := hparts .noi
  simp only [sameButResults, *]

/-! ### STEP DMC on the DMC's part -/

/-- STEP DMC makes one bus read at the cursor if a fetch is due, else none (spec R97, R99). -/
theorem dmcStep_eq (s : State) : dmcStep s =
    if fetchDue s.dmc then
      (s.busTaken.emit (.fetch s.dmc.sampleIndex)).setDmc (dmcClock (dmcFetched s.dmc (answeredByte s)))
    else s.setDmc (dmcClock s.dmc) := by
  unfold dmcStep
  obtain ⟨hd, hr⟩ | ⟨hd, hr⟩ := memoryReader_cases s
  · rw [hr, if_neg hd]
  · rw [hr, if_pos hd]; rfl

theorem dmcStep_part_congr {s s' : State} (h : s.part .dmc = s'.part .dmc) :
    (dmcStep s).part .dmc = (dmcStep s').part .dmc := by
  obtain ⟨hdmc, hevents, hanswers, hreads⟩ := State.part_dmc_eq_iff.1 h
  have hbyte : answeredByte s = answeredByte s' := by unfold answeredByte; rw [hanswers, hreads]
  rw [dmcStep_eq s, dmcStep_eq s', hdmc, hbyte]
  split <;> simp [State.part_dmc_eq_iff, hevents, hanswers, hreads]

/-! ### Which part an operation writes, and what it reads for that -/

theorem exec_part_of_ne {i : Instr} {s t : State} {c : Channel} (h : exec i s = .next t) (hc : operationChannel i ≠ some c) :
    t.part c = s.part c := by
  have he := exec_effect h
  cases c with
  | p1 => exact he.p1_of_ne hc
  | p2 => exact he.p2_of_ne hc
  | tri => exact he.tri_of_ne hc
  | noi => exact he.noi_of_ne hc
  | dmc => exact State.part_dmc_eq_iff.2 (he.dmc_events_bus_of_ne hc)

theorem exec_bus_of_ne_stepDmc {i : Instr} {s t : State} (h : exec i s = .next t) (hi : i ≠ .stepDmc) :
    t.events = s.events ∧ t.busAnswers = s.busAnswers ∧ t.busReads = s.busReads := by
  by_cases hc : operationChannel i = some .dmc
  · obtain ⟨f, hf⟩ | ⟨g, hg⟩ := exec_dmc_cases hc hi
    · cases (hf s).symm.trans h; exact ⟨rfl, rfl, rfl⟩
    · cases (hg s).symm.trans h; exact ⟨rfl, rfl, rfl⟩
  · exact ((exec_effect h).dmc_events_bus_of_ne hc).2

/-- An operation makes of its channel's part a function of the tables and that part. STEP DMC does too: `dmcStep_part_congr`. -/
theorem exec_own_part {i : Instr} {c : Channel} (hc : operationChannel i = some c) (hi : i ≠ .stepDmc) :
    ∃ f : Tables → ChannelPart c → ChannelPart c, ∀ s, ∃ t, exec i s = .next t ∧ t.part c = f s.tables (s.part c) := by
  cases c with
  | p1 =>
    obtain ⟨f, hf⟩ | ⟨g, hg⟩ := exec_p1_cases hc
    · exact ⟨f, fun s => ⟨_, hf s, rfl⟩⟩
    · exact ⟨fun _ p => p, fun s => ⟨_, hg s, rfl⟩⟩
  | p2 =>
    obtain ⟨f, hf⟩ | ⟨g, hg⟩ := exec_p2_cases hc
    · exact ⟨f, fun s => ⟨_, hf s, rfl⟩⟩
    · exact ⟨fun _ p => p, fun s => ⟨_, hg s, rfl⟩⟩
  | tri =>
    obtain ⟨f, hf⟩ | ⟨g, hg⟩ := exec_tri_cases hc
    · exact ⟨f, fun s => ⟨_, hf s, rfl⟩⟩
    · exact ⟨fun _ p => p, fun s => ⟨_, hg s, rfl⟩⟩
  | noi =>
    obtain ⟨f, hf⟩ | ⟨g, hg⟩ := exec_noi_cases hc
    · exact ⟨f, fun s => ⟨_, hf s, rfl⟩⟩
    · exact ⟨fun _ p => p, fun s => ⟨_, hg s, rfl⟩⟩
  | dmc =>
    obtain ⟨f, hf⟩ | ⟨g, hg⟩ := exec_dmc_cases hc hi
    · exact ⟨fun tables p => (f tables p.1, p.2), fun s => ⟨_, hf s, rfl⟩⟩
    · exact ⟨fun _ p => p, fun s => ⟨_, hg s, rfl⟩⟩

section
variable {i : Instr} {s s' t t' : State} (h : exec i s = .next t) (h' : exec i s' = .next t')
  (htables : s.tables = s'.tables)
include h h' htables

theorem exec_own_part_congr {c : Channel} (hc : operationChannel i = some c) (hpart : s.part c = s'.part c) :
    t.part c = t'.part c := by
  by_cases hi : i = .stepDmc
  · subst hi
    cases hc; cases h; cases h'
    exact dmcStep_part_congr hpart
  · obtain ⟨f, hf⟩ := exec_own_part hc hi
    obtain ⟨u, hu, hupart⟩ := hf s
    obtain ⟨u', hu', hupart'⟩ := hf s'
    cases hu.symm.trans h; cases hu'.symm.trans h'
    rw [hupart, hupart', htables, hpart]

/-- Whatever channel the operation names, it keeps an agreement of two states on a part (spec R1, R20). -/
theorem exec_part_congr {c : Channel} (hpart : s.part c = s'.part c) : t.part c = t'.part c := by
  by_cases hc : operationChannel i = some c
  · exact exec_own_part_congr h h' htables hc hpart
  · rw [exec_part_of_ne h hc, exec_part_of_ne h' hc, hpart]

end

/-! ### Two orders of two operations -/

theorem applyAll_pair {i j : Instr} {s t u : State} (hi : exec i s = .next t) (hj : exec j t = .next u) :
    applyAll [i, j] s = .next u := by
  simp only [applyAll, hi, hj]

/-- A part that `i` does not name is what `j` alone makes of it, whether `i` runs before `j` or after. -/
theorem exec_exec_part_comm {i j : Instr} {c : Channel} {s ti tij tj tji : State}
    (hi : exec i s = .next ti) (hij : exec j ti = .next tij) (hj : exec j s = .next tj) (hji : exec i tj = .next tji)
    (hc : operationChannel i ≠ some c) : tij.part c = tji.part c :=
  calc tij.part c = tj.part c :=
        exec_part_congr hij hj (exec_effect hi).tables_script_position.1 (exec_part_of_ne hi hc)
    _ = tji.part c := (exec_part_of_ne hji hc).symm

theorem exec_exec_constants {i j : Instr} {s t u : State} (hi : exec i s = .next t) (hj : exec j t = .next u) :
    u.tables = s.tables ∧ u.script = s.script ∧ u.position = s.position := by
  obtain ⟨htables, hscript, hposition⟩ := (exec_effect hi).tables_script_position
  rw [← htables, ← hscript, ← hposition]
  exact (exec_effect hj).tables_script_position

/-! ### The obligations -/

/-- Settles O41: only STEP DMC runs the memory reader, which reads at the cursor, and R14(d) keeps the cursor in $8000..$FFFF. -/
theorem onlyDmcStepReadsTheBus : Obligations.OnlyDmcStepReadsTheBus := by
  intro i s t hs h
  by_cases hi : i = .stepDmc
  · subst hi
    obtain rfl : dmcStep s = t := by cases h; rfl
    rw [dmcStep_eq]
    split
    · obtain ⟨-, -, -, ⟨hindex, -⟩, -⟩ := hs
      exact .inr ⟨rfl, rfl, s.dmc.sampleIndex, hindex, rfl⟩
    · exact .inl ⟨rfl, rfl, rfl⟩
  · exact .inl (exec_bus_of_ne_stepDmc h hi)

/-- Settles O51: no part is named by both operations, so each part is made by one of them alone in both orders. -/
theorem differentChannelsCommute : Obligations.DifferentChannelsCommute := by
  intro i j c d s hic hjd hcd
  obtain ⟨ti, hi⟩ := exec_next i s
  obtain ⟨tij, hij⟩ := exec_next j ti
  obtain ⟨tj, hj⟩ := exec_next j s
  obtain ⟨tji, hji⟩ := exec_next i tj
  have hparts (e : Channel) : tij.part e = tji.part e := by
    by_cases hce : c = e
    · have hde : operationChannel j ≠ some e := by rw [hjd, ← hce]; simpa using hcd.symm
      exact (exec_exec_part_comm hj hji hi hij hde).symm
    · exact exec_exec_part_comm hi hij hj hji (by rw [hic]; simpa using hce)
  obtain ⟨htables, hscript, hposition⟩ := exec_exec_constants hj hji
  have hconst : tij.tables = tji.tables ∧ tij.script = tji.script ∧ tij.position = tji.position := by
    rw [htables, hscript, hposition]
    exact exec_exec_constants hi hij
  exact ⟨tij, tji, applyAll_pair hi hij, applyAll_pair hj hji, sameButResults_of_parts hparts hconst⟩

end Sys2Proof.Machine
end

section
/-! # The timer (spec 40_timer.md): the low write, and what a timer of period P clocks

STEP P1, STEP P2 and STEP TRI all clock a phase of `n` bits by a timer. `PhaseClock` holds the two counters that move, and its period law is
proved once: P + 1 steps move the phase by one (R36), so 2 ^ n (P + 1) steps move nothing. A pulse, and a triangle that sounds, are such
a clock, the fields that do not move aside (`pulseStep_atClock`, `triangleStep_atClock`). -/

namespace Sys2Proof.Machine

/-! ### The low write: R31 -/

theorem exec_wr4002 (v : Byte) (s : State) :
    exec (.wr4002 v) s = .next { s with p1.timer := timerLowWrite s.p1.timer v } := rfl

theorem exec_wr4006 (v : Byte) (s : State) :
    exec (.wr4006 v) s = .next { s with p2.timer := timerLowWrite s.p2.timer v } := rfl

theorem exec_wr400A (v : Byte) (s : State) :
    exec (.wr400A v) s = .next { s with tri.timer := timerLowWrite s.tri.timer v } := rfl

/-! ### The same operation many times -/

/-- If the operation acts as `f` on what `put` puts into the state, its repetition acts as the iterate of `f`. -/
theorem applyTimes_iterate {α : Type} {i : Instr} {put : α → State} {f : α → α}
    (h : ∀ a, exec i (put a) = .next (put (f a))) (n : Nat) (a : α) :
    applyTimes n i (put a) = .next (put (f^[n] a)) := by
  induction n generalizing a with
  | zero => rfl
  | succ n ih =>
    calc applyTimes (n + 1) i (put a) = applyTimes n i (put (f a)) := by
          simp only [applyTimes, List.replicate_succ, applyAll, h]
      _ = .next (put (f^[n + 1] a)) := ih (f a)

/-! ### A phase clocked by a timer: R36 -/

/-- The two counters that move when a timer of `w` bits clocks a phase of `n` bits. -/
structure PhaseClock (w n : Nat) where
  cycle : BitVec w
  phase : BitVec n

/-- One timer step at the given period; the phase advances on the tick (spec R34). -/
def PhaseClock.step {w n : Nat} (period : BitVec w) (x : PhaseClock w n) : PhaseClock w n where
  cycle := (clockedTimer ⟨period, x.cycle⟩).timerCycle
  phase := if x.cycle = 0 then x.phase + 1 else x.phase

namespace PhaseClock

variable {w n : Nat} {period : BitVec w}

theorem step_of_cycle_zero (a : BitVec n) : step period ⟨0, a⟩ = ⟨period, a + 1⟩ := by
  simp [step, clockedTimer]

theorem step_of_cycle_ne_zero {c : BitVec w} (hc : c ≠ 0) (a : BitVec n) :
    step period ⟨c, a⟩ = ⟨BitVec.ofNat w (c.toNat - 1), a⟩ := by
  simp only [step, clockedTimer, if_neg hc]

/-- Above 0 the timer counts down and the phase stands still. -/
theorem step_iterate_countdown {c d : BitVec w} {k : Nat} (h : c.toNat = d.toNat + k) (a : BitVec n) :
    (step period)^[k] ⟨c, a⟩ = ⟨d, a⟩ := by
  induction k generalizing c with
  | zero => rw [BitVec.eq_of_toNat_eq h, Function.iterate_zero_apply]
  | succ k ih =>
    have hc : c ≠ 0 := fun h0 => by simp [h0] at h
    rw [Function.iterate_succ_apply, step_of_cycle_ne_zero hc, ih (by rw [toNat_ofNat_pred]; omega)]

/-- R36: between one phase and the next there are P + 1 steps, wherever in the interval one begins: `cycle` steps down to 0, the tick,
and P - `cycle` steps down from P. -/
theorem step_iterate_interval {c : BitVec w} (hc : c.toNat ≤ period.toNat) (a : BitVec n) :
    (step period)^[period.toNat + 1] ⟨c, a⟩ = ⟨c, a + 1⟩ :=
  calc (step period)^[period.toNat + 1] ⟨c, a⟩
    _ = (step period)^[period.toNat - c.toNat] (step period ((step period)^[c.toNat] ⟨c, a⟩)) := by
      rw [← Function.iterate_succ_apply' (step period), ← Function.iterate_add_apply]
      congr 1
      omega
    _ = (step period)^[period.toNat - c.toNat] ⟨period, a + 1⟩ := by
      rw [step_iterate_countdown (c := c) (d := 0) (by simp), step_of_cycle_zero]
    _ = ⟨c, a + 1⟩ := step_iterate_countdown (by omega) _

theorem step_iterate_intervals {c : BitVec w} (hc : c.toNat ≤ period.toNat) (m : Nat) (a : BitVec n) :
    (step period)^[m * (period.toNat + 1)] ⟨c, a⟩ = ⟨c, a + BitVec.ofNat n m⟩ := by
  induction m generalizing a with
  | zero => simp
  | succ m ih =>
    rw [Nat.succ_mul, Function.iterate_add_apply, step_iterate_interval hc, ih, BitVec.add_assoc,
      Nat.add_comm m 1, BitVec.ofNat_add]
    rfl

/-- After as many intervals as the phase has values, the clock is where it was. -/
theorem step_iterate_cycle (x : PhaseClock w n) (hc : x.cycle.toNat ≤ period.toNat) :
    (step period)^[2 ^ n * (period.toNat + 1)] x = x := by
  have hfull : BitVec.ofNat n (2 ^ n) = 0#n := BitVec.eq_of_toNat_eq (by rw [BitVec.toNat_ofNat, Nat.mod_self]; rfl)
  rw [step_iterate_intervals hc, hfull, BitVec.add_zero]

end PhaseClock

/-- An operation that steps such a clock is back after all its phases. -/
theorem applyTimes_clockCycle {w n : Nat} {period : BitVec w} {i : Instr} {put : PhaseClock w n → State}
    (h : ∀ x, exec i (put x) = .next (put (x.step period))) {x : PhaseClock w n} (hx : x.cycle.toNat ≤ period.toNat) :
    applyTimes (2 ^ n * (period.toNat + 1)) i (put x) = .next (put x) := by
  rw [applyTimes_iterate h, PhaseClock.step_iterate_cycle x hx]

/-! ### The channels as such clocks -/

/-- The pulse with its timer and phase at `x`, its period and its other fields as they are. -/
def Pulse.atClock (p : Pulse) (x : PhaseClock 11 3) : Pulse :=
  { p with
    timer.timerCycle := x.cycle
    phase := x.phase }

theorem pulseStep_atClock (p : Pulse) (x : PhaseClock 11 3) :
    pulseStep (p.atClock x) = p.atClock (x.step p.timer.timerPeriod) := by
  simp only [pulseStep, timerStep_fst, timerStep_snd, decide_eq_true_eq]
  rfl

/-- The triangle with its timer and phase at `x`, the held output at the sequence's value. -/
def Triangle.atClock (c : Triangle) (x : PhaseClock 11 5) : Triangle :=
  { c with
    timer.timerCycle := x.cycle
    phase := x.phase
    lastOutput := triSequence x.phase }

/-- A triangle that is not ultrasonic and sounds advances its phase on every tick, and its held output follows (spec R76). -/
theorem triangleStep_atClock {c : Triangle} (hp : 2 ≤ c.timer.timerPeriod.toNat) (hs : triangleSounding c = true)
    (x : PhaseClock 11 5) : triangleStep (c.atClock x) = c.atClock (x.step c.timer.timerPeriod) := by
  have hclock : triangleClock (c.atClock x) =
      { c with
        timer := clockedTimer ⟨c.timer.timerPeriod, x.cycle⟩
        phase := (x.step c.timer.timerPeriod).phase
        lastOutput := triSequence x.phase } := by
    have hs' : triangleSounding (c.atClock x) = true := hs
    simp only [triangleClock, timerStep_fst, timerStep_snd, hs', Bool.and_true, decide_eq_true_eq]
    rfl
  have haudible : ultrasonic (triangleClock (c.atClock x)) = false := by
    rw [hclock]
    exact decide_eq_false (Nat.not_lt.2 hp)
  rw [triangleStep, triangleHold, haudible, hclock]
  rfl

theorem exec_stepP1_atClock (s : State) (x : PhaseClock 11 3) :
    exec .stepP1 (s.setP1 (s.p1.atClock x)) = .next (s.setP1 (s.p1.atClock (x.step s.p1.timer.timerPeriod))) := by
  rw [← pulseStep_atClock]
  rfl

theorem exec_stepP2_atClock (s : State) (x : PhaseClock 11 3) :
    exec .stepP2 (s.setP2 (s.p2.atClock x)) = .next (s.setP2 (s.p2.atClock (x.step s.p2.timer.timerPeriod))) := by
  rw [← pulseStep_atClock]
  rfl

theorem exec_stepTri_atClock {s : State} (hp : 2 ≤ s.tri.timer.timerPeriod.toNat) (hs : triangleSounding s.tri = true)
    (x : PhaseClock 11 5) :
    exec .stepTri (s.setTri (s.tri.atClock x)) = .next (s.setTri (s.tri.atClock (x.step s.tri.timer.timerPeriod))) := by
  rw [← triangleStep_atClock hp hs]
  rfl

/-! ### The obligations -/

/-- Settles O16: both branches of the source's low write make the joined period (`timerLowWrite_eq`). -/
theorem timerLowWriteKeepsHighBits : Obligations.TimerLowWriteKeepsHighBits := by
  intro v s
  rw [exec_wr4002, exec_wr4006, exec_wr400A, timerLowWrite_eq, timerLowWrite_eq, timerLowWrite_eq]
  exact ⟨rfl, rfl, rfl⟩

/-- Settles O55: each channel is a clock that starts within its period, so it is back after all its phases. -/
theorem waveformsRepeat : Obligations.WaveformsRepeat := by
  refine ⟨fun s hc => ?_, fun s hc => ?_, fun s hp hc hlength hlinear hout => ?_⟩
  · exact applyTimes_clockCycle (x := ⟨s.p1.timer.timerCycle, s.p1.phase⟩) (exec_stepP1_atClock s) hc
  · exact applyTimes_clockCycle (x := ⟨s.p2.timer.timerCycle, s.p2.phase⟩) (exec_stepP2_atClock s) hc
  · have hs : triangleSounding s.tri = true := Bool.and_eq_true_iff.2 ⟨bne_iff_ne.2 hlength, bne_iff_ne.2 hlinear⟩
    have hstart : s.setTri (s.tri.atClock ⟨s.tri.timer.timerCycle, s.tri.phase⟩) = s := by
      rw [Triangle.atClock, ← hout]
      rfl
    have hrun := applyTimes_clockCycle (x := ⟨s.tri.timer.timerCycle, s.tri.phase⟩) (exec_stepTri_atClock hp hs) hc
    rwa [hstart] at hrun

end Sys2Proof.Machine
end

section
/-! # The length counter (spec 41_length.md): the load, the enable words, the half frame and the two ports

P1, P2, TRI and NOI share one counter record, so each rule is said once about the record, or once about the pulse record for P1 and P2; the
meanings of the words follow from it. -/

namespace Sys2Proof.Machine

/-! ### The counter's own rules: R38, R39 -/

@[simp] theorem lengthSetEnabled_false (l : LengthCounter) : lengthSetEnabled l false = { l with lengthCounter := 0 } := rfl

@[simp] theorem lengthSetEnabled_true (l : LengthCounter) : lengthSetEnabled l true = l := rfl

theorem lengthEnabled_iff (l : LengthCounter) : lengthEnabled l = true ↔ 0 < l.lengthCounter.toNat := by
  rw [lengthEnabled, bne_iff_ne, Nat.pos_iff_ne_zero, ne_eq, ne_eq, ← BitVec.toNat_inj]
  rfl

/-- The bit that an ENQ word returns (spec R39, R108). -/
theorem lengthEnabled_toNat (l : LengthCounter) :
    (lengthEnabled l).toNat = if 0 < l.lengthCounter.toNat then 1 else 0 := by
  rw [Bool.toNat, Bool.cond_eq_ite]
  simp only [lengthEnabled_iff]

/-! ### The half frame: R41 -/

theorem exec_hfP1 (s : State) : exec .hfP1 s = .next { s with p1 := halvedPulse s.p1 } := by
  rw [← pulseHalf_eq]
  rfl

theorem exec_hfP2 (s : State) : exec .hfP2 s = .next { s with p2 := halvedPulse s.p2 } := by
  rw [← pulseHalf_eq]
  rfl

theorem exec_hfTri (s : State) : exec .hfTri s = .next { s with tri.length := halvedLength s.tri.length } := by
  rw [← lengthHalf_eq]
  rfl

theorem exec_hfNoi (s : State) : exec .hfNoi s = .next { s with noi.length := halvedLength s.noi.length } := by
  rw [← lengthHalf_eq]
  rfl

@[simp] theorem halvedPulse_length (p : Pulse) : (halvedPulse p).length = halvedLength p.length := rfl

/-! ### The load: R37, R46 -/

section
variable (v : Byte) (s : State)

/-- The entry of the length table that the byte names (spec R2, R37). -/
def loadedLength : Byte := lengthEntry s.tables (lengthIndexField v)

theorem exec_wr4003 : exec (.wr4003 v) s = .next
    { s with
      p1.length.lengthCounter := loadedLength v s
      p1.timer := timerHighWrite s.p1.timer (timerHighField v)
      p1.envelope.envelopeReset := true
      p1.phase := 0 } := rfl

theorem exec_wr4007 : exec (.wr4007 v) s = .next
    { s with
      p2.length.lengthCounter := loadedLength v s
      p2.timer := timerHighWrite s.p2.timer (timerHighField v)
      p2.envelope.envelopeReset := true
      p2.phase := 0 } := rfl

theorem exec_wr400B : exec (.wr400B v) s = .next
    { s with
      tri.length.lengthCounter := loadedLength v s
      tri.timer := timerHighWrite s.tri.timer (timerHighField v)
      tri.linear.linearCounterReset := true } := rfl

theorem exec_wr400F : exec (.wr400F v) s = .next
    { s with
      noi.length.lengthCounter := loadedLength v s
      noi.envelope.envelopeReset := true } := rfl

end

/-! ### The enable words: R38 -/

section
variable (b : Bool) (s : State)

theorem exec_enP1 : exec (.enP1 b) s = .next { s with p1.length := lengthSetEnabled s.p1.length b } := rfl

theorem exec_enP2 : exec (.enP2 b) s = .next { s with p2.length := lengthSetEnabled s.p2.length b } := rfl

theorem exec_enTri : exec (.enTri b) s = .next { s with tri.length := lengthSetEnabled s.tri.length b } := rfl

theorem exec_enNoi : exec (.enNoi b) s = .next { s with noi.length := lengthSetEnabled s.noi.length b } := rfl

end

/-! ### The ports: R108 -/

section
variable (s : State)

theorem exec_enqP1 : exec .enqP1 s = .next (s.observe (lengthEnabled s.p1.length).toNat) := rfl

theorem exec_enqP2 : exec .enqP2 s = .next (s.observe (lengthEnabled s.p2.length).toNat) := rfl

theorem exec_enqTri : exec .enqTri s = .next (s.observe (lengthEnabled s.tri.length).toNat) := rfl

theorem exec_enqNoi : exec .enqNoi s = .next (s.observe (lengthEnabled s.noi.length).toNat) := rfl

end

/-! ### The obligations -/

/-- Settles O29: the half frame of each channel makes `halvedLength` of its counter (`lengthHalf_eq`); on a pulse the sweep's part leaves
the counter alone. -/
theorem halfFrameCountsTheLengthDown : Obligations.HalfFrameCountsTheLengthDown := fun s =>
  ⟨exec_hfTri s, exec_hfNoi s,
    ⟨_, exec_hfP1 s, halvedPulse_length s.p1⟩, ⟨_, exec_hfP2 s, halvedPulse_length s.p2⟩⟩

/-- Settles O32: all four words load the entry that the byte's upper five bits name (`lengthEntry_get?`). -/
theorem lengthIndexWriteLoadsTheTableEntry : Obligations.LengthIndexWriteLoadsTheTableEntry := fun v s =>
  ⟨loadedLength v s, lengthEntry_get? s.tables v, exec_wr400F v s,
    ⟨_, exec_wr4003 v s, rfl, rfl⟩, ⟨_, exec_wr4007 v s, rfl, rfl⟩, ⟨_, exec_wr400B v s, rfl⟩⟩

/-- Settles O23: the enable value 0 clears the counter and the value 1 gives the record back, and with it the state. -/
theorem enableWordClearsOrKeepsTheLength : Obligations.EnableWordClearsOrKeepsTheLength := by
  intro s
  simp only [exec_enP1, exec_enP2, exec_enTri, exec_enNoi, lengthSetEnabled_false, lengthSetEnabled_true, and_self]

/-- Settles O45: a LEN word returns the counter itself, an ENQ word the bit of `lengthEnabled_toNat`. -/
theorem lengthPortsObserved : Obligations.LengthPortsObserved := by
  intro s
  simp only [exec_enqP1, exec_enqP2, exec_enqTri, exec_enqNoi, lengthEnabled_toNat]
  exact ⟨rfl, rfl, rfl, rfl, rfl, rfl, rfl, rfl⟩

end Sys2Proof.Machine
end

section
/-! # The envelope (spec 42_envelope.md): the volume write, the volume port, the quarter frame and its decay law

P1, P2 and NOI share one envelope record, so each rule is said once about the record. Once restarted, an envelope of period P runs through the
records `decayingEnvelope`: the divider counts down from P and each of its underflows moves the volume one level along (R49). -/

namespace Sys2Proof.Machine

/-! ### The volume write: R44 -/

theorem envelopeVolumeWrite_eq (e : Envelope) (v : Byte) : envelopeVolumeWrite e v =
    { e with
      envelopeEnabled := v.getLsbD 4
      constantVolume := v.extractLsb 3 0
      envelopePeriod := v.extractLsb 3 0 } := rfl

theorem haltWrite_eq (l : LengthCounter) (v : Byte) : haltWrite l v = { l with lengthCounterHalt := v.getLsbD 5 } := rfl

section
variable (v : Byte) (s : State)

theorem exec_wr4000 : exec (.wr4000 v) s = .next
    { s with
      p1.duty := dutyField v
      p1.length := haltWrite s.p1.length v
      p1.envelope := envelopeVolumeWrite s.p1.envelope v } := rfl

theorem exec_wr4004 : exec (.wr4004 v) s = .next
    { s with
      p2.duty := dutyField v
      p2.length := haltWrite s.p2.length v
      p2.envelope := envelopeVolumeWrite s.p2.envelope v } := rfl

theorem exec_wr400C : exec (.wr400C v) s = .next
    { s with
      noi.length := haltWrite s.noi.length v
      noi.envelope := envelopeVolumeWrite s.noi.envelope v } := rfl

end

/-! ### The volume port: R45, R109 -/

theorem volume_toNat (e : Envelope) :
    (volume e).toNat = if e.envelopeEnabled then e.constantVolume.toNat else e.envelopeVolume.toNat :=
  apply_ite BitVec.toNat _ _ _

section
variable (s : State)

theorem exec_volP1 : exec .volP1 s = .next (s.observe (volume s.p1.envelope).toNat) := rfl

theorem exec_volP2 : exec .volP2 s = .next (s.observe (volume s.p2.envelope).toNat) := rfl

theorem exec_volNoi : exec .volNoi s = .next (s.observe (volume s.noi.envelope).toNat) := rfl

/-! ### The quarter frame: R47 -/

theorem exec_qfP1 : exec .qfP1 s = .next
    { s with p1.envelope := quarteredEnvelope s.p1.length.lengthCounterHalt s.p1.envelope } := by
  rw [← envelopeQuarter_eq]
  rfl

theorem exec_qfP2 : exec .qfP2 s = .next
    { s with p2.envelope := quarteredEnvelope s.p2.length.lengthCounterHalt s.p2.envelope } := by
  rw [← envelopeQuarter_eq]
  rfl

theorem exec_qfNoi : exec .qfNoi s = .next
    { s with noi.envelope := quarteredEnvelope s.noi.length.lengthCounterHalt s.noi.envelope } := by
  rw [← envelopeQuarter_eq]
  rfl

end

/-! ### The decay: R49 -/

/-- The volume after `q` underflows of the divider since the restart. -/
def decayVolume (loop : Bool) (q : Nat) : Nat := if loop then 15 - q % 16 else 15 - q

/-- A restarted envelope after `q` underflows of its divider, the divider at `c`. -/
def decayingEnvelope (loop : Bool) (e : Envelope) (q : Nat) (c : BitVec 4) : Envelope :=
  { e with
    envelopeReset := false
    envelopeCycle := c
    envelopeVolume := BitVec.ofNat 4 (decayVolume loop q) }

section
variable (loop : Bool) (e : Envelope) (q : Nat)

theorem decayVolume_le : decayVolume loop q ≤ 15 := by
  unfold decayVolume
  split <;> omega

@[simp] theorem decayVolume_toNat : (BitVec.ofNat 4 (decayVolume loop q)).toNat = decayVolume loop q := by
  have := decayVolume_le loop q
  rw [BitVec.toNat_ofNat, Nat.mod_eq_of_lt (by omega)]

/-- One underflow takes one from the volume; at 0 it stays, or is 15 again if the envelope loops. -/
theorem decayVolume_succ :
    decayVolume loop (q + 1) = if decayVolume loop q = 0 ∧ loop then 15 else decayVolume loop q - 1 := by
  cases loop with
  | false => simp only [decayVolume, Bool.false_eq_true, and_false, if_false]; omega
  | true => simp only [decayVolume, if_true, and_true]; split <;> omega

theorem decayVolume_eq_zero_iff : BitVec.ofNat 4 (decayVolume loop q) = 0 ↔ decayVolume loop q = 0 := by
  rw [← BitVec.toNat_inj, decayVolume_toNat]
  rfl

theorem quarteredEnvelope_restart (h : e.envelopeReset = true) :
    quarteredEnvelope loop e = decayingEnvelope loop e 0 e.envelopePeriod := by
  cases loop <;> simp [quarteredEnvelope, decayingEnvelope, decayVolume, h]

theorem quarteredEnvelope_underflow :
    quarteredEnvelope loop (decayingEnvelope loop e q 0) = decayingEnvelope loop e (q + 1) e.envelopePeriod := by
  simp only [quarteredEnvelope, decayingEnvelope, decayVolume_toNat, decayVolume_eq_zero_iff, decayVolume_succ,
    apply_ite (BitVec.ofNat 4)]
  simp

theorem quarteredEnvelope_countdown {c : BitVec 4} (hc : c ≠ 0#4) :
    quarteredEnvelope loop (decayingEnvelope loop e q c) = decayingEnvelope loop e q (BitVec.ofNat 4 (c.toNat - 1)) := by
  simp [quarteredEnvelope, decayingEnvelope, hc]

/-- Above 0 the divider counts down and the volume stands still. -/
theorem quarteredEnvelope_iterate_countdown {c d : BitVec 4} {n : Nat} (h : c.toNat = d.toNat + n) :
    (quarteredEnvelope loop)^[n] (decayingEnvelope loop e q c) = decayingEnvelope loop e q d := by
  induction n generalizing c with
  | zero => rw [BitVec.eq_of_toNat_eq h, Function.iterate_zero_apply]
  | succ n ih =>
    have hc : c ≠ 0#4 := fun h0 => by simp [h0] at h
    rw [Function.iterate_succ_apply, quarteredEnvelope_countdown loop e q hc, ih (by rw [toNat_ofNat_pred]; omega)]

/-- P + 1 quarter frames with the divider at P make one underflow, the last of them. -/
theorem quarteredEnvelope_iterate_interval :
    (quarteredEnvelope loop)^[e.envelopePeriod.toNat + 1] (decayingEnvelope loop e q e.envelopePeriod) =
      decayingEnvelope loop e (q + 1) e.envelopePeriod := by
  rw [Function.iterate_succ_apply', quarteredEnvelope_iterate_countdown loop e q (d := 0) (by simp),
    quarteredEnvelope_underflow]

theorem quarteredEnvelope_iterate_intervals :
    (quarteredEnvelope loop)^[(e.envelopePeriod.toNat + 1) * q] (decayingEnvelope loop e 0 e.envelopePeriod) =
      decayingEnvelope loop e q e.envelopePeriod := by
  induction q with
  | zero => rfl
  | succ q ih =>
    rw [Nat.mul_succ, Nat.add_comm, Function.iterate_add_apply, ih, quarteredEnvelope_iterate_interval]

/-- The restart, `q` whole intervals, and `r` counts of the divider down from P. -/
theorem quarteredEnvelope_iterate_restart (h : e.envelopeReset = true) {r : Nat} (hr : r ≤ e.envelopePeriod.toNat) :
    (quarteredEnvelope loop)^[1 + (r + (e.envelopePeriod.toNat + 1) * q)] e =
      decayingEnvelope loop e q (BitVec.ofNat 4 (e.envelopePeriod.toNat - r)) := by
  rw [Nat.add_comm, Function.iterate_succ_apply, quarteredEnvelope_restart loop e h, Function.iterate_add_apply,
    quarteredEnvelope_iterate_intervals]
  exact quarteredEnvelope_iterate_countdown loop e q (by rw [toNat_ofNat_pred]; omega)

end

/-- If the operation quarters the envelope that `put` puts into the state and `get` reads there, the volume follows that decay. -/
theorem applyTimes_decay {i : Instr} {put : Envelope → State} {get : State → Envelope} (loop : Bool)
    (hexec : ∀ e, exec i (put e) = .next (put (quarteredEnvelope loop e))) (hget : ∀ e, get (put e) = e)
    {e : Envelope} (h : e.envelopeReset = true) (k : Nat) :
    ∃ t, applyTimes (1 + k) i (put e) = .next t ∧
      (get t).envelopeVolume.toNat = decayVolume loop (k / (e.envelopePeriod.toNat + 1)) := by
  have hr : k % (e.envelopePeriod.toNat + 1) ≤ e.envelopePeriod.toNat := Nat.le_of_lt_succ (Nat.mod_lt k (Nat.succ_pos _))
  have hrun := quarteredEnvelope_iterate_restart loop e (k / (e.envelopePeriod.toNat + 1)) h hr
  rw [Nat.mod_add_div] at hrun
  refine ⟨_, applyTimes_iterate hexec (1 + k) e, ?_⟩
  rw [hget, hrun]
  exact decayVolume_toNat loop _

/-! ### The obligations -/

/-- Settles O19: `quarteredEnvelope` is what the quarter frame makes of the record (`envelopeQuarter_eq`), on each of the channels. -/
theorem quarterFrameClocksTheEnvelope : Obligations.QuarterFrameClocksTheEnvelope := fun s =>
  ⟨exec_qfP1 s, exec_qfP2 s, exec_qfNoi s⟩

/-- Settles O56: each channel's envelope follows the decay from its restart (`applyTimes_decay`), the rest of the state aside. -/
theorem envelopeDecayLaw : Obligations.EnvelopeDecayLaw := fun s k =>
  ⟨fun h => applyTimes_decay (put := fun e => { s with p1.envelope := e }) (get := fun t => t.p1.envelope)
      s.p1.length.lengthCounterHalt (fun _ => exec_qfP1 _) (fun _ => rfl) h k,
    fun h => applyTimes_decay (put := fun e => { s with p2.envelope := e }) (get := fun t => t.p2.envelope)
      s.p2.length.lengthCounterHalt (fun _ => exec_qfP2 _) (fun _ => rfl) h k,
    fun h => applyTimes_decay (put := fun e => { s with noi.envelope := e }) (get := fun t => t.noi.envelope)
      s.noi.length.lengthCounterHalt (fun _ => exec_qfNoi _) (fun _ => rfl) h k⟩

/-- Settles O30: the three words make the same two records from the byte. -/
theorem volumeWriteDecodesItsByte : Obligations.VolumeWriteDecodesItsByte := fun v s =>
  ⟨exec_wr400C v s,
    ⟨_, exec_wr4000 v s, haltWrite_eq s.p1.length v, envelopeVolumeWrite_eq s.p1.envelope v⟩,
    ⟨_, exec_wr4004 v s, haltWrite_eq s.p2.length v, envelopeVolumeWrite_eq s.p2.envelope v⟩⟩

/-- Settles O46: a VOL word returns the `volume` of the record and nothing mutes it (`volume_toNat`). -/
theorem volumePortsObserved : Obligations.VolumePortsObserved := by
  intro s
  simp only [exec_volP1, exec_volP2, exec_volNoi, volume_toNat]
  exact ⟨rfl, rfl, rfl⟩

end Sys2Proof.Machine
end

section
/-! # The sweep unit (spec 43_sweep.md): the write, the target period and the half frames that keep the period

P1 and P2 share one pulse record, so each rule is said once about the record; the meanings of the words follow from it. -/

namespace Sys2Proof.Machine

/-! ### The write: R50 -/

theorem sweepWrite_eq (w : Sweep) (v : Byte) : sweepWrite w v =
    { w with
      sweepEnabled := v.getLsbD 7
      sweepPeriod := v.extractLsb 6 4
      sweepNegate := v.getLsbD 3
      sweepShift := v.extractLsb 2 0
      sweepReset := true } := rfl

section
variable (v : Byte) (s : State)

theorem exec_wr4001 : exec (.wr4001 v) s = .next { s with p1.sweep := sweepWrite s.p1.sweep v } := rfl

theorem exec_wr4005 : exec (.wr4005 v) s = .next { s with p2.sweep := sweepWrite s.p2.sweep v } := rfl

end

/-! ### The target: R51 -/

/-- The period shifted right, the amount by which the target differs from it (spec R51). -/
def sweepChange (p : Pulse) : Nat := p.timer.timerPeriod.toNat / 2 ^ p.sweep.sweepShift.toNat

section
variable {p : Pulse}

theorem sweepTarget_of_shift_zero (hs : p.sweep.sweepShift = 0) : sweepTarget p = p.timer.timerPeriod.toNat :=
  if_pos hs

theorem sweepTarget_of_add (hs : p.sweep.sweepShift ≠ 0) (hn : p.sweep.sweepNegate = false) :
    sweepTarget p = (p.timer.timerPeriod.toNat + sweepChange p : Nat) := by
  rw [sweepTarget, if_neg hs, if_neg (by simp [hn]), Nat.shiftRight_eq_div_pow]
  rfl

theorem sweepTarget_of_negate (hs : p.sweep.sweepShift ≠ 0) (hn : p.sweep.sweepNegate = true) :
    sweepTarget p = p.timer.timerPeriod.toNat - sweepChange p - p.negateMode.toNat := by
  rw [sweepTarget, if_neg hs, if_pos hn, Nat.shiftRight_eq_div_pow]
  rfl

/-- A shift of 1 or more takes away at least half of the period. -/
theorem two_mul_sweepChange_le (hs : p.sweep.sweepShift ≠ 0) : 2 * sweepChange p ≤ p.timer.timerPeriod.toNat := by
  have hpow : 2 ^ 1 ≤ 2 ^ p.sweep.sweepShift.toNat :=
    Nat.pow_le_pow_right (by omega) (Nat.one_le_iff_ne_zero.mpr fun h => hs (BitVec.eq_of_toNat_eq h))
  calc 2 * sweepChange p
      ≤ 2 ^ p.sweep.sweepShift.toNat * sweepChange p := Nat.mul_le_mul_right _ hpow
    _ ≤ p.timer.timerPeriod.toNat := Nat.mul_div_le _ _

variable (p)

/-- The target lies between 0 less the bias and $7FF + $3FF. -/
theorem sweepTarget_bounds : -1 ≤ sweepTarget p ∧ sweepTarget p ≤ 0xBFE := by
  have hp := p.timer.timerPeriod.isLt
  by_cases hs : p.sweep.sweepShift = 0
  · rw [sweepTarget_of_shift_zero hs]; omega
  · have hc := two_mul_sweepChange_le hs
    cases hn : p.sweep.sweepNegate with
    | false => rw [sweepTarget_of_add hs hn]; omega
    | true =>
      have hb := p.negateMode.toNat_le
      rw [sweepTarget_of_negate hs hn]; omega

end

/-! ### The half frames that keep the period: R55(a), (b) -/

section
variable {p : Pulse}

theorem not_sweepDue_of_reset (h : p.sweep.sweepReset = true) : ¬sweepDue p := fun ⟨hr, _⟩ => by simp [h] at hr

/-- Without a shift a due update writes the period itself; with a reload pending none is due. -/
theorem halvedPulse_timerPeriod_eq (h : p.sweep.sweepShift = 0 ∨ p.sweep.sweepReset = true) :
    (halvedPulse p).timer.timerPeriod = p.timer.timerPeriod := by
  obtain hs | hr := h
  · have ht : BitVec.ofInt 11 (sweepTarget p) = p.timer.timerPeriod := by
      rw [sweepTarget_of_shift_zero hs, BitVec.ofInt_natCast, BitVec.ofNat_toNat, BitVec.setWidth_eq]
    simp only [halvedPulse, ht, ite_self]
  · exact if_neg (not_sweepDue_of_reset hr)

end

/-! ### The obligations -/

/-- Settles O21: the three cases of the target, the negated one with the bias moved to the other side, and its bounds. -/
theorem sweepTargetArithmetic : Obligations.SweepTargetArithmetic := by
  intro p
  refine ⟨sweepTarget_of_shift_zero, sweepTarget_of_add, fun hs hn => ?_, sweepTarget_bounds p⟩
  have hb : (if p.negateMode then 1 else 0 : Int) = p.negateMode.toNat := by cases p.negateMode <;> rfl
  rw [sweepTarget_of_negate hs hn, hb, ← sweepChange]
  omega

/-- Settles O22: either condition makes the half frame keep the period of the record (`halvedPulse_timerPeriod_eq`). -/
theorem sweepNeverMovesThePeriodWithoutShift : Obligations.SweepNeverMovesThePeriodWithoutShift := fun s =>
  ⟨fun h => ⟨_, exec_hfP1 s, halvedPulse_timerPeriod_eq h⟩, fun h => ⟨_, exec_hfP2 s, halvedPulse_timerPeriod_eq h⟩⟩

/-- Settles O15: both words make the same record from the byte (`sweepWrite_eq`). -/
theorem sweepWriteSetsItsFields : Obligations.SweepWriteSetsItsFields := by
  intro v s
  simp only [exec_wr4001, exec_wr4005, sweepWrite_eq, and_self]

end Sys2Proof.Machine
end

section
/-! # The linear counter (spec 44_linear.md): the counter write and the quarter frame of TRI

Each rule is said once about the record; the halt flag of the length counter is the control flag of the linear counter (R12), so the write
makes one record of each. -/

namespace Sys2Proof.Machine

/-! ### The counter write: R56 -/

theorem linearMaxWrite_eq (l : LinearCounter) (v : Byte) :
    linearMaxWrite l v = { l with linearCounterMax := v.extractLsb 6 0 } := rfl

theorem controlWrite_eq (l : LengthCounter) (v : Byte) :
    controlWrite l v = { l with lengthCounterHalt := v.getLsbD 7 } := rfl

theorem exec_wr4008 (v : Byte) (s : State) : exec (.wr4008 v) s = .next
    { s with
      tri.linear := linearMaxWrite s.tri.linear v
      tri.length := controlWrite s.tri.length v } := rfl

/-! ### The quarter frame: R58 -/

theorem linearQuarter_linearCounterReset (control : Bool) (l : LinearCounter) :
    (linearQuarter control l).linearCounterReset = if control then l.linearCounterReset else false := by
  cases control with
  | false => exact Bool.and_false _
  | true => exact Bool.and_true _

/-- The quarter frame moves the counter and the reload flag and keeps the reload value. -/
theorem linearQuarter_eq (control : Bool) (l : LinearCounter) : linearQuarter control l =
    { l with
      linearCounter := if l.linearCounterReset then l.linearCounterMax else BitVec.ofNat 7 (l.linearCounter.toNat - 1)
      linearCounterReset := if control then l.linearCounterReset else false } := by
  rw [← linearQuarter_linearCounter control, ← linearQuarter_linearCounterReset]
  rfl

theorem exec_qfTri (s : State) : exec .qfTri s = .next
    { s with tri.linear := linearQuarter s.tri.length.lengthCounterHalt s.tri.linear } := rfl

/-! ### The obligations -/

/-- Settles O28: the quarter frame acts on the record of the linear counter alone, as `linearQuarter_eq` says, with the halt flag as its
control. -/
theorem quarterFrameClocksTheLinearCounter : Obligations.QuarterFrameClocksTheLinearCounter := by
  intro s
  rw [exec_qfTri, linearQuarter_eq]

/-- Settles O24: the byte's bits 6:0 go to the linear counter's record, its bit 7 to the length counter's. -/
theorem triangleCounterWriteSetsItsFields : Obligations.TriangleCounterWriteSetsItsFields := by
  intro v s
  rw [exec_wr4008, linearMaxWrite_eq, controlWrite_eq]

end Sys2Proof.Machine
end

section
/-! # The pulse channels (spec 45_pulse.md): the writes of offsets 0 and 3, the step, the half frame and the output

P1 and P2 share one pulse record, so each rule is said once about the record or its parts; the meanings of the words follow from it. -/

namespace Sys2Proof.Machine

/-! ### The write of offset 0: R61 -/

theorem dutyField_eq (v : Byte) : dutyField v = v.extractLsb 7 6 := rfl

/-! ### The step: R65 -/

/-- A pulse channel after one step, by its fields: the phase advances by 1 mod 8 on the tick (spec R65). -/
def steppedPulse (p : Pulse) : Pulse :=
  { p with
    timer := clockedTimer p.timer
    phase := BitVec.ofNat 3 ((p.phase.toNat + if p.timer.timerCycle = 0 then 1 else 0) % 8) }

/-- Three bits count mod 8 by themselves. -/
theorem ofNat_add_mod_eight (a : BitVec 3) (n : Nat) : BitVec.ofNat 3 ((a.toNat + n) % 8) = a + BitVec.ofNat 3 n := by
  apply BitVec.eq_of_toNat_eq
  simp

theorem pulseStep_eq (p : Pulse) : pulseStep p = steppedPulse p := by
  simp only [pulseStep, steppedPulse, timerStep_fst, timerStep_snd, decide_eq_true_eq, ofNat_add_mod_eight]
  congr 1
  split
  · rfl
  · exact (BitVec.add_zero p.phase).symm

section
variable (s : State)

theorem exec_stepP1 : exec .stepP1 s = .next { s with p1 := steppedPulse s.p1 } := by
  rw [← pulseStep_eq]
  rfl

theorem exec_stepP2 : exec .stepP2 s = .next { s with p2 := steppedPulse s.p2 } := by
  rw [← pulseStep_eq]
  rfl

end

/-! ### The output: R70 -/

theorem sweepMuted_iff (p : Pulse) : sweepMuted p = true ↔ sweepTarget p < 8 ∨ 0x7FF < sweepTarget p := decide_eq_true_iff

theorem dutyLow_iff (t : Tables) (p : Pulse) : dutyLow t p = true ↔ dutyStep t p.duty p.phase = false := by
  rw [dutyLow, Bool.not_eq_true']

/-- The three mutes, of the length counter, the sweep and the duty, each by the value that it reads (spec R70). -/
theorem pulseOutput_toNat (t : Tables) (p : Pulse) : (pulseOutput t p).toNat =
    if p.length.lengthCounter = 0 ∨ sweepTarget p < 8 ∨ 0x7FF < sweepTarget p ∨ dutyStep t p.duty p.phase = false then 0
    else if p.envelope.envelopeEnabled then p.envelope.constantVolume.toNat
    else p.envelope.envelopeVolume.toNat := by
  rw [pulseOutput, apply_ite BitVec.toNat, volume_toNat]
  simp only [sweepMuted_iff, dutyLow_iff, or_assoc]
  rfl

section
variable (s : State)

theorem exec_outP1 : exec .outP1 s = .next (s.observe (pulseOutput s.tables s.p1).toNat) := rfl

theorem exec_outP2 : exec .outP2 s = .next (s.observe (pulseOutput s.tables s.p2).toNat) := rfl

end

/-! ### The obligations -/

/-- Settles O17: the load is the entry that the byte's upper five bits name (`lengthEntry_get?`), and the high write makes the joined
period (`timerHighWrite_eq`). -/
theorem pulseLengthWriteRestartsTheNote : Obligations.PulseLengthWriteRestartsTheNote := by
  intro v s
  simp only [exec_wr4003, exec_wr4007, timerHighWrite_eq, timerHighField_toNat]
  exact ⟨⟨loadedLength v s, lengthEntry_get? s.tables v, rfl⟩, ⟨loadedLength v s, lengthEntry_get? s.tables v, rfl⟩⟩

/-- Settles O18: a step clocks the timer and moves the phase on the tick (`pulseStep_eq`). -/
theorem pulseStepClocksTimerAndPhase : Obligations.PulseStepClocksTimerAndPhase := fun s =>
  ⟨exec_stepP1 s, exec_stepP2 s⟩

/-- Settles O20: `halvedPulse` is what the half frame makes of the record (`pulseHalf_eq`). -/
theorem halfFrameClocksLengthAndSweep : Obligations.HalfFrameClocksLengthAndSweep := fun s =>
  ⟨exec_hfP1 s, exec_hfP2 s⟩

/-- Settles O42: the duty step is the entry of the table that `dutyStep_get?` finds, and with it the output is as `pulseOutput_toNat` says. -/
theorem pulseOutputObserved : Obligations.PulseOutputObserved := by
  intro s
  simp only [exec_outP1, exec_outP2, pulseOutput_toNat]
  obtain ⟨row₁, hrow₁, hstep₁⟩ := dutyStep_get? s.tables s.p1.duty s.p1.phase
  obtain ⟨row₂, hrow₂, hstep₂⟩ := dutyStep_get? s.tables s.p2.duty s.p2.phase
  exact ⟨⟨row₁, _, hrow₁, hstep₁, rfl⟩, ⟨row₂, _, hrow₂, hstep₂, rfl⟩⟩

/-- Settles O14: both words make the same three changes from the byte (`dutyField_eq`, `haltWrite_eq`, `envelopeVolumeWrite_eq`). -/
theorem pulseDutyWriteSetsItsFields : Obligations.PulseDutyWriteSetsItsFields := by
  intro v s
  simp only [exec_wr4000, exec_wr4004, dutyField_eq, haltWrite_eq, envelopeVolumeWrite_eq, and_self]

end Sys2Proof.Machine
end

section
/-! # The triangle channel (spec 46_triangle.md): the write of offset 3, the step, the output, and the linear counter after a trigger

The step and the output read the same two conditions, that both counters are nonzero and that the period is ultrasonic; each is said once
about the record, and the meanings of the words follow from it. -/

namespace Sys2Proof.Machine

/-! ### The sequence and the mutes: R6, R76, R81 -/

/-- The sequence rises to 15 in its first half and falls from 15 in its second (spec R6). -/
theorem triSequence_toNat (i : BitVec 5) : (triSequence i).toNat = min i.toNat (31 - i.toNat) := by
  have hi := i.isLt
  unfold triSequence
  split <;> rw [BitVec.toNat_ofNat] <;> omega

section
variable (c : Triangle)

theorem triangleSounding_iff :
    triangleSounding c = true ↔ c.length.lengthCounter ≠ 0 ∧ c.linear.linearCounter ≠ 0 := by
  rw [triangleSounding, Bool.and_eq_true, bne_iff_ne, bne_iff_ne]

theorem ultrasonic_iff : ultrasonic c = true ↔ c.timer.timerPeriod.toNat < 2 := decide_eq_true_iff

/-! ### The step: R76 -/

/-- The phase advances in the next step: the timer ticks and both counters are nonzero (spec R76). -/
abbrev phaseDue : Prop :=
  c.timer.timerCycle = 0 ∧ c.length.lengthCounter ≠ 0 ∧ c.linear.linearCounter ≠ 0

/-- The phase after one step; five bits count mod 32 by themselves. -/
def steppedPhase : BitVec 5 := if phaseDue c then c.phase + 1 else c.phase

/-- A triangle channel after one step, by its fields: an ultrasonic period holds the output, not the phase (spec R76, decision D13). -/
def steppedTriangle : Triangle :=
  { c with
    timer := clockedTimer c.timer
    phase := steppedPhase c
    lastOutput := if c.timer.timerPeriod.toNat < 2 then c.lastOutput else triSequence (steppedPhase c) }

theorem triangleClock_eq :
    triangleClock c = { c with timer := clockedTimer c.timer, phase := steppedPhase c } := by
  simp only [triangleClock, steppedPhase, timerStep_fst, timerStep_snd, Bool.and_eq_true, decide_eq_true_eq,
    triangleSounding_iff]

theorem triangleStep_eq : triangleStep c = steppedTriangle c := by
  rw [triangleStep, triangleClock_eq, triangleHold, steppedTriangle]
  simp only [ultrasonic_iff, clockedTimer_timerPeriod]
  split <;> rfl

theorem steppedPhase_toNat_of_due (h : phaseDue c) : (steppedPhase c).toNat = (c.phase.toNat + 1) % 32 := by
  rw [steppedPhase, if_pos h, BitVec.toNat_add]
  rfl

/-! ### The output: R81 -/

/-- The mutes are tested before the ultrasonic hold (spec R81, decision D13). -/
theorem triangleOutput_toNat : (triangleOutput c).toNat =
    if c.length.lengthCounter = 0 ∨ c.linear.linearCounter = 0 then 0
    else if c.timer.timerPeriod.toNat < 2 then c.lastOutput.toNat
    else min c.phase.toNat (31 - c.phase.toNat) := by
  have hmuted : (!triangleSounding c) = true ↔ c.length.lengthCounter = 0 ∨ c.linear.linearCounter = 0 := by
    rw [Bool.not_eq_true', ← Bool.not_eq_true, triangleSounding_iff, not_and_or, not_not, not_not]
  simp only [triangleOutput, hmuted, ultrasonic_iff, apply_ite BitVec.toNat, triSequence_toNat,
    BitVec.ofNat_eq_ofNat, BitVec.toNat_ofNat, Nat.zero_mod]

end

section
variable (s : State)

theorem exec_stepTri : exec .stepTri s = .next { s with tri := steppedTriangle s.tri } := by
  rw [← triangleStep_eq]
  rfl

theorem exec_outTri : exec .outTri s = .next (s.observe (triangleOutput s.tri).toNat) := rfl

end

/-! ### The linear counter after a trigger: R82(b), (c) -/

/-- A triggered linear counter after its reload and `k` more quarter frames: with the control flag set every one of them reloads it, and
otherwise each takes one, down to 0. -/
def linearAfterReload (control : Bool) (l : LinearCounter) (k : Nat) : LinearCounter :=
  { l with
    linearCounter := if control then l.linearCounterMax else BitVec.ofNat 7 (l.linearCounterMax.toNat - k)
    linearCounterReset := control }

section
variable (control : Bool) (l : LinearCounter) (k : Nat)

theorem linearQuarter_reload (h : l.linearCounterReset = true) :
    linearQuarter control l = linearAfterReload control l 0 := by
  rw [linearQuarter_eq, linearAfterReload, h]
  cases control <;> simp

theorem linearQuarter_linearAfterReload :
    linearQuarter control (linearAfterReload control l k) = linearAfterReload control l (k + 1) := by
  rw [linearQuarter_eq]
  cases control with
  | false =>
    simp only [linearAfterReload, Bool.false_eq_true, if_false, toNat_ofNat_pred]
    rw [Nat.sub_sub]
  | true => simp only [linearAfterReload, if_true]

theorem linearQuarter_iterate_reload (h : l.linearCounterReset = true) :
    (linearQuarter control)^[k + 1] l = linearAfterReload control l k := by
  induction k with
  | zero => exact linearQuarter_reload control l h
  | succ k ih => rw [Function.iterate_succ_apply', ih, linearQuarter_linearAfterReload]

end

/-- The quarter frames act on the linear counter alone, so their repetition is the iterate of `linearQuarter` there. -/
theorem applyTimes_qfTri_of_reset {s : State} (h : s.tri.linear.linearCounterReset = true) (k : Nat) :
    applyTimes (k + 1) .qfTri s = .next
      { s with tri.linear := linearAfterReload s.tri.length.lengthCounterHalt s.tri.linear k } := by
  rw [← linearQuarter_iterate_reload _ _ k h]
  exact applyTimes_iterate (put := fun l => { s with tri.linear := l }) (fun _ => exec_qfTri _) (k + 1) s.tri.linear

/-! ### The obligations -/

/-- Settles O26: the load is the entry that the byte's upper five bits name (`lengthEntry_get?`), and the high write makes the joined
period (`timerHighWrite_eq`). -/
theorem triangleLengthWriteTriggersTheReload : Obligations.TriangleLengthWriteTriggersTheReload := by
  intro v s
  simp only [exec_wr400B, timerHighWrite_eq, timerHighField_toNat]
  exact ⟨loadedLength v s, lengthEntry_get? s.tables v, rfl⟩

/-- Settles O27: the step makes `steppedTriangle` of the record, and each clause reads one branch of its phase or its held output. -/
theorem triangleStepMovesPhaseAndHold : Obligations.TriangleStepMovesPhaseAndHold := by
  intro s
  refine ⟨_, exec_stepTri s, rfl, steppedPhase_toNat_of_due s.tri, fun hstill => if_neg hstill, fun haudible => ?_,
    fun hultrasonic => if_pos hultrasonic⟩
  have hheld : (steppedTriangle s.tri).lastOutput = triSequence (steppedPhase s.tri) := if_neg (Nat.not_lt.2 haudible)
  rw [hheld]
  exact triSequence_toNat _

/-- Settles O43: OUT TRI returns the output, whose three cases are those of `triangleOutput_toNat`. -/
theorem triangleOutputObserved : Obligations.TriangleOutputObserved := by
  intro s
  rw [exec_outTri, triangleOutput_toNat]
  rfl

/-- Settles O57: the counter after the reload is `linearAfterReload`, read at each value of the control flag. -/
theorem linearCounterDepletesOrReloads : Obligations.LinearCounterDepletesOrReloads := by
  intro s k hreset
  refine ⟨_, applyTimes_qfTri_of_reset hreset k, fun hcontrol => ?_, fun hcontrol => ?_⟩
  · simp only [hcontrol, linearAfterReload, Bool.false_eq_true, if_false, toNat_ofNat_pred, and_self]
  · simp only [hcontrol, linearAfterReload, if_true, and_self]

end Sys2Proof.Machine
end

section
/-! # The noise channel (spec 47_noise.md): the write of $400E, the step and the output, and the output of the DMC

The shift register is said in arithmetic: its half, plus 2^14 when the feedback bit is set. The two summands share no bit, so the model's
disjunction is their sum. -/

namespace Sys2Proof.Machine

/-! ### The write of $400E: R85 -/

/-- Bit 7 of a byte tells its upper half from its lower. -/
theorem byte_getLsbD_seven (v : Byte) : v.getLsbD 7 = decide (128 ≤ v.toNat) :=
  (BitVec.msb_eq_getLsbD_last v).symm.trans (BitVec.msb_eq_decide v)

theorem timerModeField_eq (v : Byte) : timerModeField v = decide (128 ≤ v.toNat) := byte_getLsbD_seven v

theorem exec_wr400E (v : Byte) (s : State) : exec (.wr400E v) s = .next
    { s with
      noi.timerMode := timerModeField v
      noi.timer.timerPeriod := noisePeriodEntry s.tables (periodIndexField v) } := rfl

/-! ### The step: R87 -/

section
variable (c : Noise)

theorem noiseFeedback_eq_false_iff : noiseFeedback c = false ↔
    c.shiftRegister.getLsbD 0 = c.shiftRegister.getLsbD (if c.timerMode then 6 else 1) := by
  rw [noiseFeedback, ← apply_ite c.shiftRegister.getLsbD]
  exact bne_eq_false_iff_eq

theorem two_pow_mul_noiseFeedback_toNat : 2 ^ 14 * (noiseFeedback c).toNat =
    if c.shiftRegister.getLsbD 0 = c.shiftRegister.getLsbD (if c.timerMode then 6 else 1) then 0 else 0x4000 := by
  simp only [← noiseFeedback_eq_false_iff]
  cases noiseFeedback c <;> rfl

/-- The shifted register leaves bit 14 free for the feedback bit. -/
theorem noiseShift_toNat : (noiseShift c).toNat = c.shiftRegister.toNat / 2 + 2 ^ 14 * (noiseFeedback c).toNat := by
  have hhalf : c.shiftRegister.toNat / 2 < 2 ^ 14 := by
    have := c.shiftRegister.isLt
    omega
  have hbit : ((BitVec.ofBool (noiseFeedback c)).setWidth 15 <<< 14).toNat = 2 ^ 14 * (noiseFeedback c).toNat := by
    cases noiseFeedback c <;> rfl
  rw [noiseShift, BitVec.toNat_or, BitVec.toNat_ushiftRight, Nat.shiftRight_one, hbit, Nat.or_comm,
    ← Nat.two_pow_add_eq_or_of_lt hhalf, Nat.add_comm]

/-- A noise channel after one step, by its fields: on the tick the register shifts and takes the feedback bit (spec R87). -/
def steppedNoise : Noise :=
  { c with
    timer := clockedTimer c.timer
    shiftRegister :=
      if c.timer.timerCycle = 0 then
        BitVec.ofNat 15
          (c.shiftRegister.toNat / 2 +
            if c.shiftRegister.getLsbD 0 = c.shiftRegister.getLsbD (if c.timerMode then 6 else 1) then 0 else 0x4000)
      else c.shiftRegister }

theorem noiseStep_eq : noiseStep c = steppedNoise c := by
  simp only [noiseStep, steppedNoise, timerStep_fst, timerStep_snd, decide_eq_true_eq, ← two_pow_mul_noiseFeedback_toNat,
    ← noiseShift_toNat, BitVec.ofNat_toNat, BitVec.setWidth_eq]

/-! ### The output: R92 -/

/-- The two mutes are bit 0 of the register, as its parity, and the length counter. -/
theorem noiseOutput_toNat : (noiseOutput c).toNat =
    if c.shiftRegister.toNat % 2 = 1 ∨ c.length.lengthCounter = 0 then 0
    else if c.envelope.envelopeEnabled then c.envelope.constantVolume.toNat
    else c.envelope.envelopeVolume.toNat := by
  have hparity : c.shiftRegister.getLsbD 0 = true ↔ c.shiftRegister.toNat % 2 = 1 := by
    rw [BitVec.getLsbD, Nat.testBit_zero, decide_eq_true_iff]
  rw [noiseOutput, apply_ite BitVec.toNat, volume_toNat]
  simp only [hparity]
  rfl

end

section
variable (s : State)

theorem exec_stepNoi : exec .stepNoi s = .next { s with noi := steppedNoise s.noi } := by
  rw [← noiseStep_eq]
  rfl

theorem exec_outNoi : exec .outNoi s = .next (s.observe (noiseOutput s.noi).toNat) := rfl

theorem exec_outDmc : exec .outDmc s = .next (s.observe s.dmc.output.toNat) := rfl

end

/-! ### The obligations -/

/-- Settles O33: the step makes `steppedNoise` of the record (`noiseStep_eq`, from the register's sum `noiseShift_toNat`). -/
theorem noiseStepShiftsTheRegister : Obligations.NoiseStepShiftsTheRegister := exec_stepNoi

/-- Settles O31: the period is the entry that the byte's lower four bits name (`noisePeriodEntry_get?`), the mode its bit 7. -/
theorem noisePeriodWriteSetsModeAndPeriod : Obligations.NoisePeriodWriteSetsModeAndPeriod := by
  intro v s
  rw [← timerModeField_eq]
  exact ⟨_, noisePeriodEntry_get? s.tables v, exec_wr400E v s⟩

/-- Settles O44: OUT NOI returns the output, whose cases are those of `noiseOutput_toNat`, and OUT DMC the level itself. -/
theorem noiseAndDmcOutputObserved : Obligations.NoiseAndDmcOutputObserved := by
  intro s
  rw [exec_outNoi, noiseOutput_toNat]
  exact ⟨rfl, exec_outDmc s⟩

end Sys2Proof.Machine
end

section
/-! # The encoding (spec 30_encoding.md): the two round trips, and the rows of the opcode table

A word whose field `zero` is 0 is its other three fields packed (`packWord_fields`), and the decoder reads those fields alone. Both round
trips are therefore about `decodeKind`: it finds the operation in the fields that `encode` packs, and what it finds packs to
the fields it read. A row of the table fixes the upper three fields of a word and asks something of its data byte only
(`fields_of_matchesWord`); the decoder accepts every byte that a row admits (`row_decodes`). -/

namespace Sys2Proof

/-! ### A word and its fields: R22 -/

section
variable (w : Word)

theorem wordKind_toNat : (wordKind w).toNat = w.toNat / 2 ^ 28 % 2 ^ 4 := by
  rw [wordKind, BitVec.extractLsb'_toNat, Nat.shiftRight_eq_div_pow]

theorem wordZero_toNat : (wordZero w).toNat = w.toNat / 2 ^ 24 % 2 ^ 4 := by
  rw [wordZero, BitVec.extractLsb'_toNat, Nat.shiftRight_eq_div_pow]

theorem wordAddr_toNat : (wordAddr w).toNat = w.toNat / 2 ^ 8 % 2 ^ 16 := by
  rw [wordAddr, BitVec.extractLsb'_toNat, Nat.shiftRight_eq_div_pow]

theorem wordData_toNat : (wordData w).toNat = w.toNat % 2 ^ 8 := by
  rw [wordData, BitVec.extractLsb'_toNat, Nat.shiftRight_zero]

end

section
variable (kind : BitVec 4) (a : Addr) (v : Byte)

theorem packWord_toNat : (packWord kind a v).toNat = 2 ^ 28 * kind.toNat + 2 ^ 8 * a.toNat + v.toNat := by
  have ha := a.isLt
  have hv := v.isLt
  unfold packWord
  rw [BitVec.toNat_append, BitVec.toNat_append, BitVec.toNat_append,
    ← Nat.shiftLeft_add_eq_or_of_lt hv, ← Nat.shiftLeft_add_eq_or_of_lt ha, ← Nat.shiftLeft_add_eq_or_of_lt (by decide),
    Nat.shiftLeft_eq, Nat.shiftLeft_eq, Nat.shiftLeft_eq, BitVec.toNat_ofNat]
  omega

@[simp] theorem wordKind_packWord : wordKind (packWord kind a v) = kind := by
  apply BitVec.eq_of_toNat_eq
  rw [wordKind_toNat, packWord_toNat]
  omega

@[simp] theorem wordZero_packWord : wordZero (packWord kind a v) = 0 := by
  apply BitVec.eq_of_toNat_eq
  rw [wordZero_toNat, packWord_toNat]
  show _ = 0
  omega

@[simp] theorem wordAddr_packWord : wordAddr (packWord kind a v) = a := by
  apply BitVec.eq_of_toNat_eq
  rw [wordAddr_toNat, packWord_toNat]
  omega

@[simp] theorem wordData_packWord : wordData (packWord kind a v) = v := by
  apply BitVec.eq_of_toNat_eq
  rw [wordData_toNat, packWord_toNat]
  omega

end

theorem packWord_fields {w : Word} (h : wordZero w = 0) : packWord (wordKind w) (wordAddr w) (wordData w) = w := by
  have hzero : w.toNat / 2 ^ 24 % 2 ^ 4 = 0 := (wordZero_toNat w).symm.trans (congrArg BitVec.toNat h)
  apply BitVec.eq_of_toNat_eq
  rw [packWord_toNat, wordKind_toNat, wordAddr_toNat, wordData_toNat]
  omega

/-! ### What `decode` answers: R29 -/

theorem decode_eq_ok_iff {w : Word} {i : Instr} :
    decode w = .ok i ↔ wordZero w = 0 ∧ decodeKind (wordKind w) (wordAddr w) (wordData w) = some i := by
  unfold decode
  by_cases hz : wordZero w = 0
  · rw [if_pos hz]
    cases decodeKind (wordKind w) (wordAddr w) (wordData w) <;> simp [hz]
  · rw [if_neg hz]
    simp only [hz, false_and, reduceCtorEq]

theorem decode_ok_or_illegal (w : Word) : (∃ i, decode w = .ok i) ∨ decode w = .error (.illegalWord w) := by
  unfold decode
  split
  · cases decodeKind (wordKind w) (wordAddr w) (wordData w) with
    | some i => exact .inl ⟨i, rfl⟩
    | none => exact .inr rfl
  · exact .inr rfl

/-! ### From the operation to its word and back -/

theorem decode_packWord {kind : BitVec 4} {a : Addr} {v : Byte} {i : Instr} (h : decodeKind kind a v = some i) :
    decode (packWord kind a v) = .ok i := by
  rw [decode_eq_ok_iff, wordKind_packWord, wordAddr_packWord, wordData_packWord]
  exact ⟨wordZero_packWord kind a v, h⟩

theorem decode_encode (i : Instr) : decode (encode i) = .ok i := by
  cases i with
  | enP1 b | enP2 b | enTri b | enNoi b => cases b <;> exact decode_packWord rfl
  | _ => exact decode_packWord rfl

/-! ### From the word to its operation and back -/

theorem channelOfBase_eq_some {a : Addr} {c : Channel} (h : channelOfBase a = some c) : a = channelBase c := by
  unfold channelOfBase at h
  split_ifs at h <;> cases h <;> assumption

/-- What the decoder `f` of a channel answers has the word of that kind, base address and data byte. -/
def EncodesAs (kind : BitVec 4) (v : Byte) (f : Channel → Option Instr) : Prop :=
  ∀ c i, f c = some i → encode i = packWord kind (channelBase c) v

theorem decodeStep_encodesAs : EncodesAs 1 0 decodeStep := by
  intro c i h; cases c <;> cases h <;> rfl

theorem decodeQuarter_encodesAs : EncodesAs 2 0 decodeQuarter := by
  intro c i h; cases c <;> cases h <;> rfl

theorem decodeHalf_encodesAs : EncodesAs 3 0 decodeHalf := by
  intro c i h; cases c <;> cases h <;> rfl

theorem decodeReset_encodesAs : EncodesAs 4 0 decodeReset := by
  intro c i h; cases c <;> cases h <;> rfl

theorem decodeEnable_encodesAs (b : Bool) : EncodesAs 5 (enableData b) (decodeEnable b) := by
  intro c i h; cases c <;> cases h <;> rfl

theorem decodeAck_encodesAs : EncodesAs 6 0 decodeAck := by
  intro c i h; cases c <;> cases h; rfl

theorem decodeOut_encodesAs : EncodesAs 7 0 decodeOut := by
  intro c i h; cases c <;> cases h <;> rfl

theorem decodeLen_encodesAs : EncodesAs 7 1 decodeLen := by
  intro c i h; cases c <;> cases h <;> rfl

theorem decodeEnq_encodesAs : EncodesAs 7 2 decodeEnq := by
  intro c i h; cases c <;> cases h <;> rfl

theorem decodeVol_encodesAs : EncodesAs 7 3 decodeVol := by
  intro c i h; cases c <;> cases h <;> rfl

theorem decodeIrq_encodesAs : EncodesAs 7 4 decodeIrq := by
  intro c i h; cases c <;> cases h; rfl

theorem decodeObserve_encodesAs (v : Byte) : EncodesAs 7 v (decodeObserve v) := by
  intro c i h
  unfold decodeObserve at h
  split at h
  · next hv => obtain ⟨-, rfl⟩ := BitVec.toNat_eq_nat.1 hv; exact decodeOut_encodesAs c i h
  · next hv => obtain ⟨-, rfl⟩ := BitVec.toNat_eq_nat.1 hv; exact decodeLen_encodesAs c i h
  · next hv => obtain ⟨-, rfl⟩ := BitVec.toNat_eq_nat.1 hv; exact decodeEnq_encodesAs c i h
  · next hv => obtain ⟨-, rfl⟩ := BitVec.toNat_eq_nat.1 hv; exact decodeVol_encodesAs c i h
  · next hv => obtain ⟨-, rfl⟩ := BitVec.toNat_eq_nat.1 hv; exact decodeIrq_encodesAs c i h
  · cases h

section
variable {kind : BitVec 4} {a : Addr} {v : Byte} {i : Instr}

theorem EncodesAs.of_base {f : Channel → Option Instr} (hf : EncodesAs kind v f) (h : (channelOfBase a).bind f = some i) :
    encode i = packWord kind a v := by
  obtain ⟨c, hc, hi⟩ := Option.bind_eq_some_iff.1 h
  rw [channelOfBase_eq_some hc]
  exact hf c i hi

theorem EncodesAs.of_hook {f : Channel → Option Instr} (hf : EncodesAs kind 0 f) (h : decodeHook f a v = some i) :
    encode i = packWord kind a v := by
  obtain ⟨rfl, h⟩ := (Option.ite_none_right_eq_some).1 h
  exact hf.of_base h

theorem encode_of_decodeWrite (h : decodeWrite a v = some i) : encode i = packWord 0 a v := by
  unfold decodeWrite at h
  split at h
  case h_21 => cases h
  all_goals
    next ha =>
      obtain ⟨-, rfl⟩ := BitVec.toNat_eq_nat.1 ha
      cases h
      rfl

theorem encode_of_decodeKind (h : decodeKind kind a v = some i) : encode i = packWord kind a v := by
  unfold decodeKind at h
  split at h
  · next hk => obtain ⟨-, rfl⟩ := BitVec.toNat_eq_nat.1 hk; exact encode_of_decodeWrite h
  · next hk => obtain ⟨-, rfl⟩ := BitVec.toNat_eq_nat.1 hk; exact decodeStep_encodesAs.of_hook h
  · next hk => obtain ⟨-, rfl⟩ := BitVec.toNat_eq_nat.1 hk; exact decodeQuarter_encodesAs.of_hook h
  · next hk => obtain ⟨-, rfl⟩ := BitVec.toNat_eq_nat.1 hk; exact decodeHalf_encodesAs.of_hook h
  · next hk => obtain ⟨-, rfl⟩ := BitVec.toNat_eq_nat.1 hk; exact decodeReset_encodesAs.of_hook h
  · next hk =>
    obtain ⟨-, rfl⟩ := BitVec.toNat_eq_nat.1 hk
    split_ifs at h with h0 h1
    · subst h0; exact (decodeEnable_encodesAs false).of_base h
    · subst h1; exact (decodeEnable_encodesAs true).of_base h
  · next hk => obtain ⟨-, rfl⟩ := BitVec.toNat_eq_nat.1 hk; exact decodeAck_encodesAs.of_hook h
  · next hk => obtain ⟨-, rfl⟩ := BitVec.toNat_eq_nat.1 hk; exact (decodeObserve_encodesAs v).of_base h
  · next hk =>
    obtain ⟨-, rfl⟩ := BitVec.toNat_eq_nat.1 hk
    obtain ⟨⟨rfl, rfl⟩, h⟩ := Option.ite_none_right_eq_some.1 h
    cases h
    rfl
  · cases h

end

theorem encode_of_decode {w : Word} {i : Instr} (h : decode w = .ok i) : encode i = w := by
  obtain ⟨hz, hi⟩ := decode_eq_ok_iff.1 h
  rw [encode_of_decodeKind hi, packWord_fields hz]

/-! ### The rows of the opcode table: R22 -/

/-- The word of every operation is a row's, as the laws say per operation. -/
theorem wordLegal_encode : (i : Instr) → wordLegal (encode i) = true
  | .wr4000 v => Laws.LegalWord.wr4000 v
  | .wr4001 v => Laws.LegalWord.wr4001 v
  | .wr4002 v => Laws.LegalWord.wr4002 v
  | .wr4003 v => Laws.LegalWord.wr4003 v
  | .wr4004 v => Laws.LegalWord.wr4004 v
  | .wr4005 v => Laws.LegalWord.wr4005 v
  | .wr4006 v => Laws.LegalWord.wr4006 v
  | .wr4007 v => Laws.LegalWord.wr4007 v
  | .wr4008 v => Laws.LegalWord.wr4008 v
  | .wr4009 v => Laws.LegalWord.wr4009 v
  | .wr400A v => Laws.LegalWord.wr400A v
  | .wr400B v => Laws.LegalWord.wr400B v
  | .wr400C v => Laws.LegalWord.wr400C v
  | .wr400D v => Laws.LegalWord.wr400D v
  | .wr400E v => Laws.LegalWord.wr400E v
  | .wr400F v => Laws.LegalWord.wr400F v
  | .wr4010 v => Laws.LegalWord.wr4010 v
  | .wr4011 v => Laws.LegalWord.wr4011 v
  | .wr4012 v => Laws.LegalWord.wr4012 v
  | .wr4013 v => Laws.LegalWord.wr4013 v
  | .stepP1 => Laws.LegalWord.stepP1
  | .stepP2 => Laws.LegalWord.stepP2
  | .stepTri => Laws.LegalWord.stepTri
  | .stepNoi => Laws.LegalWord.stepNoi
  | .stepDmc => Laws.LegalWord.stepDmc
  | .qfP1 => Laws.LegalWord.qfP1
  | .qfP2 => Laws.LegalWord.qfP2
  | .qfTri => Laws.LegalWord.qfTri
  | .qfNoi => Laws.LegalWord.qfNoi
  | .qfDmc => Laws.LegalWord.qfDmc
  | .hfP1 => Laws.LegalWord.hfP1
  | .hfP2 => Laws.LegalWord.hfP2
  | .hfTri => Laws.LegalWord.hfTri
  | .hfNoi => Laws.LegalWord.hfNoi
  | .hfDmc => Laws.LegalWord.hfDmc
  | .rstP1 => Laws.LegalWord.rstP1
  | .rstP2 => Laws.LegalWord.rstP2
  | .rstTri => Laws.LegalWord.rstTri
  | .rstNoi => Laws.LegalWord.rstNoi
  | .rstDmc => Laws.LegalWord.rstDmc
  | .enP1 b => Laws.LegalWord.enP1 b
  | .enP2 b => Laws.LegalWord.enP2 b
  | .enTri b => Laws.LegalWord.enTri b
  | .enNoi b => Laws.LegalWord.enNoi b
  | .ackDmc => Laws.LegalWord.ackDmc
  | .outP1 => Laws.LegalWord.outP1
  | .outP2 => Laws.LegalWord.outP2
  | .outTri => Laws.LegalWord.outTri
  | .outNoi => Laws.LegalWord.outNoi
  | .outDmc => Laws.LegalWord.outDmc
  | .lenP1 => Laws.LegalWord.lenP1
  | .lenP2 => Laws.LegalWord.lenP2
  | .lenTri => Laws.LegalWord.lenTri
  | .lenNoi => Laws.LegalWord.lenNoi
  | .enqP1 => Laws.LegalWord.enqP1
  | .enqP2 => Laws.LegalWord.enqP2
  | .enqTri => Laws.LegalWord.enqTri
  | .enqNoi => Laws.LegalWord.enqNoi
  | .volP1 => Laws.LegalWord.volP1
  | .volP2 => Laws.LegalWord.volP2
  | .volNoi => Laws.LegalWord.volNoi
  | .irqDmc => Laws.LegalWord.irqDmc
  | .mix => Laws.LegalWord.mix

section
variable {r : OpcodeRow} {w : Word}

theorem matchesWord_iff : r.matchesWord w = true ↔ w &&& r.mask = r.pattern := beq_iff_eq

theorem wordLegal_iff : wordLegal w = true ↔ ∃ r ∈ opcodeTable, r.matchesWord w = true := List.any_eq_true

/-- What a mask of ones fixes. -/
theorem extractLsb'_eq_of_mask {m p : Word} {start len : Nat} (h : w &&& m = p)
    (hm : m.extractLsb' start len = .allOnes len) : w.extractLsb' start len = p.extractLsb' start len := by
  rw [← h, BitVec.extractLsb'_and, hm, BitVec.and_allOnes]

/-- Every row fixes the upper three fields of its words. -/
theorem row_mask : ∀ r ∈ opcodeTable,
    wordKind r.mask = .allOnes 4 ∧ wordZero r.mask = .allOnes 4 ∧ wordAddr r.mask = .allOnes 16 := by
  decide

theorem row_zero : ∀ r ∈ opcodeTable, wordZero r.pattern = 0 := by
  decide

theorem fields_of_matchesWord (hr : r ∈ opcodeTable) (h : r.matchesWord w = true) :
    wordKind w = wordKind r.pattern ∧ wordZero w = 0 ∧ wordAddr w = wordAddr r.pattern ∧
      wordData w &&& wordData r.mask = wordData r.pattern := by
  obtain ⟨hkind, hzero, haddr⟩ := row_mask r hr
  have hmatch := matchesWord_iff.1 h
  exact ⟨extractLsb'_eq_of_mask hmatch hkind, (extractLsb'_eq_of_mask hmatch hzero).trans (row_zero r hr),
    extractLsb'_eq_of_mask hmatch haddr, BitVec.extractLsb'_and.symm.trans (congrArg wordData hmatch)⟩

end

/-- The decoder accepts every data byte that the row admits, beside the row's kind and address. -/
def OpcodeRow.Decodes (r : OpcodeRow) : Prop :=
  ∀ v, v &&& wordData r.mask = wordData r.pattern → (decodeKind (wordKind r.pattern) (wordAddr r.pattern) v).isSome = true

/-- Whether an address is a register's does not depend on the byte written. -/
theorem decodeWrite_isSome (a : Addr) (v v' : Byte) : (decodeWrite a v).isSome = (decodeWrite a v').isSome := by
  unfold decodeWrite
  split <;> rfl

theorem registerRows_decode : ∀ r ∈ registerRows, r.Decodes := by
  have hrows : ∀ r ∈ registerRows, wordKind r.pattern = 0 ∧ (decodeWrite (wordAddr r.pattern) 0).isSome = true := by decide
  intro r hr v _
  obtain ⟨hkind, hsome⟩ := hrows r hr
  rw [hkind]
  exact (decodeWrite_isSome (wordAddr r.pattern) v 0).trans hsome

/-- A row that fixes the data byte too is decoded if its own word is. -/
theorem OpcodeRow.decodes_of_exact {r : OpcodeRow} (hmask : wordData r.mask = .allOnes 8)
    (h : (decodeKind (wordKind r.pattern) (wordAddr r.pattern) (wordData r.pattern)).isSome = true) : r.Decodes := by
  intro v hv
  rw [hmask, BitVec.and_allOnes] at hv
  rw [hv]
  exact h

theorem exactRows_decode : ∀ r ∈ hookRows ++ observeRows, r.Decodes := by
  have hrows : ∀ r ∈ hookRows ++ observeRows, wordData r.mask = .allOnes 8 ∧
      (decodeKind (wordKind r.pattern) (wordAddr r.pattern) (wordData r.pattern)).isSome = true := by decide
  exact fun r hr => OpcodeRow.decodes_of_exact (hrows r hr).1 (hrows r hr).2

theorem enableRows_decode : ∀ r ∈ enableRows, r.Decodes := by
  unfold OpcodeRow.Decodes
  decide

theorem row_decodes {r : OpcodeRow} (hr : r ∈ opcodeTable) : r.Decodes := by
  unfold opcodeTable at hr
  simp only [List.mem_append] at hr
  obtain ((hr | hr) | hr) | hr := hr
  · exact registerRows_decode r hr
  · exact exactRows_decode r (List.mem_append_left _ hr)
  · exact enableRows_decode r hr
  · exact exactRows_decode r (List.mem_append_right _ hr)

theorem decode_of_matchesWord {r : OpcodeRow} {w : Word} (hr : r ∈ opcodeTable) (h : r.matchesWord w = true) :
    ∃ i, decode w = .ok i := by
  obtain ⟨hkind, hzero, haddr, hdata⟩ := fields_of_matchesWord hr h
  obtain ⟨i, hi⟩ := Option.isSome_iff_exists.1 (row_decodes hr (wordData w) hdata)
  rw [← hkind, ← haddr] at hi
  exact ⟨i, decode_eq_ok_iff.2 ⟨hzero, hi⟩⟩

theorem exists_row_of_decode {w : Word} {i : Instr} (h : decode w = .ok i) : ∃ r ∈ opcodeTable, r.matchesWord w = true := by
  rw [← encode_of_decode h]
  exact wordLegal_iff.1 (wordLegal_encode i)

/-- The two rows disagree on a bit that both fix. -/
abbrev OpcodeRow.Apart (r r' : OpcodeRow) : Prop := r.pattern &&& r'.mask ≠ r'.pattern &&& r.mask

theorem opcodeTable_apart : opcodeTable.Pairwise OpcodeRow.Apart := by
  decide

theorem row_unique {r r' : OpcodeRow} {w : Word} (hr : r ∈ opcodeTable) (hr' : r' ∈ opcodeTable)
    (h : r.matchesWord w = true) (h' : r'.matchesWord w = true) : r' = r := by
  have : Std.Symm OpcodeRow.Apart := ⟨fun _ _ hapart => hapart.symm⟩
  by_contra hne
  refine opcodeTable_apart.forall hr' hr hne ?_
  rw [← matchesWord_iff.1 h, ← matchesWord_iff.1 h', BitVec.and_assoc, BitVec.and_assoc, BitVec.and_comm r'.mask]

/-! ### The obligations -/

/-- Settles O5: the decoder finds the operation in the fields that `encode` packs. -/
theorem decodeOfEncode : Obligations.DecodeOfEncode := decode_encode

/-- Settles O6: what the decoder finds in the fields of a word packs to those fields, and they are the word. -/
theorem encodeOfDecode : Obligations.EncodeOfDecode := fun _ _ => encode_of_decode

/-- Settles O4: a word that decodes is its operation's word, which a row matches; a row admits only words that decode; no word
matches two rows. -/
theorem legalWordMatchesExactlyOneRow : Obligations.LegalWordMatchesExactlyOneRow := by
  intro w
  constructor
  · rintro ⟨i, hi⟩
    obtain ⟨r, hr, hw⟩ := exists_row_of_decode hi
    exact ⟨r, hr, hw, fun r' hr' hw' => row_unique hr hr' hw hw'⟩
  · rintro ⟨r, hr, hw, -⟩
    exact decode_of_matchesWord hr hw

/-- Settles O7: the decoder evaluated on each of the words. -/
theorem specWordsDecode : Obligations.SpecWordsDecode := by
  unfold Obligations.SpecWordsDecode
  exact ⟨rfl, rfl, rfl, rfl, rfl, rfl, rfl, rfl, rfl, rfl, rfl, rfl, rfl, rfl, rfl, rfl⟩

end Sys2Proof
end

section
/-! # The step (spec 00_scope.md section 5, 60_exceptions.md section 2): what it does with the word at the position -/

namespace Sys2Proof.Machine

section
variable {s : State} {w : Word}

theorem step_of_decode_ok {i : Instr} (hw : s.script[s.position]? = some w) (hi : decode w = .ok i) :
    step s = exec i s.advance := by
  simp only [step, fetchWord, hw, hi]

theorem step_of_decode_illegal (hw : s.script[s.position]? = some w) (h : decode w = .error (.illegalWord w)) :
    step s = .refused (.illegalWord w) := by
  simp only [step, fetchWord, hw, h, refuseIllegal]

theorem step_of_no_word (h : s.script[s.position]? = none) : step s = .fault .endOfScript := by
  simp only [step, fetchWord, h]

end

/-! ### The obligations -/

/-- Settles O2: a word that decodes matches a row (`exists_row_of_decode`), so a word of no row is illegal. -/
theorem stepRefusesWordOfNoRow : Obligations.StepRefusesWordOfNoRow := by
  intro s w hw hnone
  refine step_of_decode_illegal hw ((decode_ok_or_illegal w).resolve_left ?_)
  rintro ⟨i, hi⟩
  obtain ⟨r, hr, hmatch⟩ := exists_row_of_decode hi
  exact Bool.false_ne_true ((hnone r hr).symm.trans hmatch)

/-- Settles O1: the first branch of the step. -/
theorem stepRunsDecodedOperation : Obligations.StepRunsDecodedOperation := fun _ _ _ => step_of_decode_ok

/-- Settles O3: past its end the script has no word at the position. -/
theorem stepStopsAfterLastOperation : Obligations.StepStopsAfterLastOperation := fun _ h =>
  step_of_no_word (List.getElem?_eq_none h)

end Sys2Proof.Machine
end

section
/-! # The delta modulation channel (spec 48_dmc.md): the writes, STEP DMC and the acknowledge

STEP DMC is the memory reader's turn, which makes `readDmc` of the record, and then the timer's, `dmcClock`. The two write different fields but
for the sample buffer, which passes from one to the other; `readDmc_frame` and `dmcClock_frame` say which. -/

namespace Sys2Proof.Machine

/-! ### The writes and the acknowledge: R93 to R96, R103 -/

section
variable (v : Byte) (s : State)

theorem irqEnabledField_eq : irqEnabledField v = decide (128 ≤ v.toNat) := byte_getLsbD_seven v

theorem exec_wr4010 : exec (.wr4010 v) s = .next
    { s with
      dmc.irqEnabled := irqEnabledField v
      dmc.sampleLoop := v.getLsbD 6
      dmc.timer.timerPeriod := dmcRateEntry s.tables (rateIndexField v) } := rfl

theorem exec_wr4011 : exec (.wr4011 v) s = .next { s with dmc.output := directLoadField v } := rfl

theorem exec_wr4012 : exec (.wr4012 v) s = .next { s with dmc.sampleAddress := sampleAddressOf v } := rfl

theorem exec_wr4013 : exec (.wr4013 v) s = .next
    { s with
      dmc.sampleLength := sampleLengthOf v
      dmc.sampleIndex := s.dmc.sampleAddress
      dmc.sampleLeft := sampleLengthOf v } := rfl

theorem exec_ackDmc : exec .ackDmc s = .next { s with dmc.irq := false } := rfl

theorem exec_stepDmc : exec .stepDmc s = .next (dmcStep s) := rfl

end

/-! ### The fetch: R97 -/

section
variable {d : Dmc} (b : Byte)

theorem dmcFetched_of_more (hleft : d.sampleLeft ≠ 1) : dmcFetched d b =
    { d with
      sampleBuffer := some b
      sampleIndex := nextIndex d.sampleIndex
      sampleLeft := d.sampleLeft - 1 } :=
  if_pos (sub_ne_zero.2 hleft)

theorem dmcFetched_of_loop (hleft : d.sampleLeft = 1) (hloop : d.sampleLoop = true) : dmcFetched d b =
    { d with
      sampleBuffer := some b
      sampleIndex := d.sampleAddress
      sampleLeft := d.sampleLength } := by
  rw [dmcFetched, if_neg (not_not.2 (sub_eq_zero.2 hleft)), if_pos hloop]

theorem dmcFetched_of_last (hleft : d.sampleLeft = 1) (hloop : d.sampleLoop = false) : dmcFetched d b =
    { d with
      sampleBuffer := some b
      sampleIndex := nextIndex d.sampleIndex
      sampleLeft := 0
      irq := d.irq || d.irqEnabled } := by
  rw [dmcFetched, if_neg (not_not.2 (sub_eq_zero.2 hleft)), if_neg (Bool.eq_false_iff.1 hloop)]

theorem dmcFetched_frame (d : Dmc) : dmcFetched d b =
    { d with
      sampleBuffer := some b
      sampleIndex := (dmcFetched d b).sampleIndex
      sampleLeft := (dmcFetched d b).sampleLeft
      irq := (dmcFetched d b).irq } := by
  unfold dmcFetched
  split
  · rfl
  · split <;> rfl

end

/-- The DMC after the memory reader's turn. -/
def readDmc (s : State) : Dmc := (memoryReader s).dmc

section
variable {s : State}

theorem readDmc_of_due (h : fetchDue s.dmc) : readDmc s = dmcFetched s.dmc (answeredByte s) := by
  obtain ⟨hd, -⟩ | ⟨-, hr⟩ := memoryReader_cases s
  · exact absurd h hd
  · rw [readDmc, hr, State.setDmc_dmc]

theorem readDmc_of_not_due (h : ¬fetchDue s.dmc) : readDmc s = s.dmc := by
  obtain ⟨-, hr⟩ | ⟨hd, -⟩ := memoryReader_cases s
  · rw [readDmc, hr]
  · exact absurd hd h

theorem dmcStep_events_bus_of_due (h : fetchDue s.dmc) :
    (dmcStep s).events = s.events ++ [.fetch s.dmc.sampleIndex] ∧ (dmcStep s).busAnswers = s.busAnswers.tail ∧
      (dmcStep s).busReads = s.busReads + 1 := by
  rw [dmcStep_eq, if_pos h]
  exact ⟨rfl, rfl, rfl⟩

theorem dmcStep_events_bus_of_not_due (h : ¬fetchDue s.dmc) :
    (dmcStep s).events = s.events ∧ (dmcStep s).busAnswers = s.busAnswers ∧ (dmcStep s).busReads = s.busReads := by
  rw [dmcStep_eq, if_neg h]
  exact ⟨rfl, rfl, rfl⟩

variable (s)

theorem readDmc_frame : readDmc s =
    { s.dmc with
      sampleBuffer := bufferAfterReader s
      sampleIndex := (readDmc s).sampleIndex
      sampleLeft := (readDmc s).sampleLeft
      irq := (readDmc s).irq } := by
  by_cases h : fetchDue s.dmc
  · rw [readDmc_of_due h, bufferAfterReader, if_pos h]
    exact dmcFetched_frame _ _
  · rw [readDmc_of_not_due h, bufferAfterReader, if_neg h]

@[simp] theorem readDmc_timer : (readDmc s).timer = s.dmc.timer := by
  rw [readDmc_frame]

@[simp] theorem readDmc_output : (readDmc s).output = s.dmc.output := by
  rw [readDmc_frame]

@[simp] theorem readDmc_shiftRegister : (readDmc s).shiftRegister = s.dmc.shiftRegister := by
  rw [readDmc_frame]

@[simp] theorem readDmc_shiftRegisterBits : (readDmc s).shiftRegisterBits = s.dmc.shiftRegisterBits := by
  rw [readDmc_frame]

@[simp] theorem readDmc_sampleBuffer : (readDmc s).sampleBuffer = bufferAfterReader s := by
  rw [readDmc_frame]

end

/-! ### The output unit: R98 -/

section
variable (d : Dmc)

theorem dmcPlayBit_output_toNat : (dmcPlayBit d).output.toNat =
    if d.shiftRegisterBits = 0 then d.output.toNat
    else if d.shiftRegister.getLsbD 0 then min 127 (d.output.toNat + 2)
    else d.output.toNat - 2 := by
  obtain ⟨h0, heq⟩ | ⟨hne, heq⟩ := dmcPlayBit_cases d
  · rw [heq, if_pos h0]
  · rw [heq, if_neg hne]
    exact dmcLevel_toNat _ _

theorem dmcPlayBit_shiftRegister_toNat : (dmcPlayBit d).shiftRegister.toNat =
    if d.shiftRegisterBits = 0 then d.shiftRegister.toNat else d.shiftRegister.toNat / 2 := by
  obtain ⟨h0, heq⟩ | ⟨hne, heq⟩ := dmcPlayBit_cases d
  · rw [heq, if_pos h0]
  · rw [heq, if_neg hne]
    exact (BitVec.toNat_ushiftRight _ _).trans (Nat.shiftRight_one _)

theorem dmcPlayBit_shiftRegisterBits_toNat : (dmcPlayBit d).shiftRegisterBits.toNat = d.shiftRegisterBits.toNat - 1 := by
  obtain ⟨h0, heq⟩ | ⟨hne, heq⟩ := dmcPlayBit_cases d
  · rw [heq, h0]
    rfl
  · rw [heq]
    exact toNat_sub_one hne

theorem dmcPlayBit_sampleBuffer : (dmcPlayBit d).sampleBuffer = d.sampleBuffer := by
  obtain ⟨-, heq⟩ | ⟨-, heq⟩ := dmcPlayBit_cases d <;> rw [heq]

theorem dmcPlayBit_frame : dmcPlayBit d =
    { d with
      output := (dmcPlayBit d).output
      shiftRegister := (dmcPlayBit d).shiftRegister
      shiftRegisterBits := (dmcPlayBit d).shiftRegisterBits } := by
  obtain ⟨-, heq⟩ | ⟨-, heq⟩ := dmcPlayBit_cases d <;> rw [heq]

theorem dmcRefill_frame : dmcRefill d =
    { d with
      shiftRegister := (dmcRefill d).shiftRegister
      shiftRegisterBits := (dmcRefill d).shiftRegisterBits
      sampleBuffer := (dmcRefill d).sampleBuffer } := by
  obtain ⟨-, heq⟩ | ⟨_, -, -, heq⟩ := dmcRefill_cases d <;> rw [heq]

theorem outputUnit_output : (outputUnit d).output = (dmcPlayBit d).output := by
  rw [outputUnit, dmcRefill_frame]

theorem outputUnit_frame : outputUnit d =
    { d with
      output := (outputUnit d).output
      shiftRegister := (outputUnit d).shiftRegister
      shiftRegisterBits := (outputUnit d).shiftRegisterBits
      sampleBuffer := (outputUnit d).sampleBuffer } := by
  unfold outputUnit
  rw [dmcRefill_frame, dmcPlayBit_frame]

theorem dmcPlayBit_bits_eq_zero_iff : (dmcPlayBit d).shiftRegisterBits = 0 ↔ d.shiftRegisterBits.toNat ≤ 1 := by
  rw [← BitVec.toNat_inj, dmcPlayBit_shiftRegisterBits_toNat]
  exact Nat.sub_eq_zero_iff_le

variable {d}

/-- The last bit is played, or none remained, and the buffered byte enters. -/
theorem outputUnit_of_refill {b : Byte} (hb : d.sampleBuffer = some b) (hbits : d.shiftRegisterBits.toNat ≤ 1) :
    outputUnit d = { dmcPlayBit d with shiftRegister := b, shiftRegisterBits := 8, sampleBuffer := none } := by
  rw [← dmcPlayBit_sampleBuffer] at hb
  obtain ⟨hkeep, -⟩ | ⟨b', hb', -, heq⟩ := dmcRefill_cases (dmcPlayBit d)
  · have hnone : ¬(dmcPlayBit d).sampleBuffer = none := by simp [hb]
    exact absurd ((dmcPlayBit_bits_eq_zero_iff d).2 hbits) (hkeep.resolve_left hnone)
  · cases hb.symm.trans hb'
    exact heq

/-- No byte is buffered, or a bit remains after the one played. -/
theorem outputUnit_of_no_refill (h : d.sampleBuffer = none ∨ 1 < d.shiftRegisterBits.toNat) :
    outputUnit d = dmcPlayBit d := by
  obtain ⟨-, heq⟩ | ⟨b, hb, hbits, -⟩ := dmcRefill_cases (dmcPlayBit d)
  · exact heq
  · rw [dmcPlayBit_sampleBuffer] at hb
    rw [dmcPlayBit_bits_eq_zero_iff] at hbits
    obtain hnone | hmore := h
    · cases hb.symm.trans hnone
    · omega

end

/-! ### The timer's turn: R99 -/

section
variable {d : Dmc}

theorem dmcClock_of_no_tick (h : d.timer.timerCycle ≠ 0) : dmcClock d = { d with timer := clockedTimer d.timer } := by
  simp only [dmcClock, timerStep_fst, timerStep_snd, decide_eq_true_eq, if_neg h]

theorem dmcPlayBit_withTimer (d : Dmc) (t : Timer Config.ndPeriodW) :
    dmcPlayBit { d with timer := t } = { dmcPlayBit d with timer := t } := by
  unfold dmcPlayBit
  split <;> rfl

theorem dmcRefill_withTimer (d : Dmc) (t : Timer Config.ndPeriodW) :
    dmcRefill { d with timer := t } = { dmcRefill d with timer := t } := by
  unfold dmcRefill
  dsimp only
  split
  · split <;> rfl
  · rfl

/-- The output unit does not look at the timer. -/
theorem outputUnit_withTimer (d : Dmc) (t : Timer Config.ndPeriodW) :
    outputUnit { d with timer := t } = { outputUnit d with timer := t } := by
  rw [outputUnit, dmcPlayBit_withTimer, dmcRefill_withTimer, outputUnit]

theorem dmcClock_of_tick (h : d.timer.timerCycle = 0) :
    dmcClock d = { outputUnit d with timer := clockedTimer d.timer } := by
  simp only [dmcClock, timerStep_fst, timerStep_snd, decide_eq_true_eq, if_pos h, outputUnit_withTimer]

variable (d)

theorem dmcClock_frame : dmcClock d =
    { d with
      timer := clockedTimer d.timer
      output := (dmcClock d).output
      shiftRegister := (dmcClock d).shiftRegister
      shiftRegisterBits := (dmcClock d).shiftRegisterBits
      sampleBuffer := (dmcClock d).sampleBuffer } := by
  by_cases h : d.timer.timerCycle = 0
  · rw [dmcClock_of_tick h, outputUnit_frame]
  · rw [dmcClock_of_no_tick h]

end

section
variable (s : State)

theorem dmcStep_dmc : (dmcStep s).dmc = dmcClock (readDmc s) := rfl

theorem dmcStep_frame : dmcStep s =
    { s with
      dmc := (dmcStep s).dmc
      events := (dmcStep s).events
      busAnswers := (dmcStep s).busAnswers
      busReads := (dmcStep s).busReads } := by
  rw [dmcStep_eq]
  split <;> rfl

/-- The cursor, the count and the latch are the reader's alone. -/
theorem dmcStep_reader_fields : (dmcStep s).dmc.sampleIndex = (readDmc s).sampleIndex ∧
    (dmcStep s).dmc.sampleLeft = (readDmc s).sampleLeft ∧ (dmcStep s).dmc.irq = (readDmc s).irq := by
  rw [dmcStep_dmc, dmcClock_frame]
  exact ⟨rfl, rfl, rfl⟩

end

/-! ### The obligations -/

/-- Settles O34: the rate is the entry that the byte's lower four bits name (`dmcRateEntry_get?`), the enable its bit 7. -/
theorem dmcRateWriteSetsItsFields : Obligations.DmcRateWriteSetsItsFields := by
  intro v s
  rw [← irqEnabledField_eq]
  exact ⟨_, dmcRateEntry_get? s.tables v, exec_wr4010 v s⟩

/-- Settles O35: none of the three values wraps around its field (`sampleAddressOf_toNat`, `sampleLengthOf_toNat`). -/
theorem dmcSampleWritesDecodeTheirByte : Obligations.DmcSampleWritesDecodeTheirByte := fun v s =>
  ⟨⟨_, directLoadField_toNat v, exec_wr4011 v s⟩, ⟨_, sampleAddressOf_toNat v, exec_wr4012 v s⟩,
    ⟨_, sampleLengthOf_toNat v, exec_wr4013 v s⟩⟩

/-- Settles O36: the clauses are the reader's cases, before the last byte, at the last of a loop, at the last, and with nothing due. -/
theorem dmcStepFetchesWhenTheBufferIsEmpty : Obligations.DmcStepFetchesWhenTheBufferIsEmpty := by
  intro s
  obtain ⟨hindex, hleft, hirq⟩ := dmcStep_reader_fields s
  refine ⟨dmcStep s, exec_stepDmc s, fun hdue => ?_, fun hdue => ?_⟩ <;> rw [hindex, hleft, hirq]
  · obtain ⟨hevents, hanswers, hreads⟩ := dmcStep_events_bus_of_due hdue
    refine ⟨hevents, hanswers, hreads, fun hmore => ?_, fun hlast hloop => ?_, fun hlast hloop => ?_⟩ <;>
      rw [readDmc_of_due hdue]
    · have hpos : 1 ≤ s.dmc.sampleLeft.toNat := Nat.one_le_iff_ne_zero.2 fun h0 => hdue.2 (BitVec.eq_of_toNat_eq h0)
      rw [dmcFetched_of_more _ hmore]
      exact ⟨rfl, by rw [toNat_sub_one hdue.2]; exact Nat.sub_add_cancel hpos, rfl⟩
    · rw [dmcFetched_of_loop _ hlast hloop]
      exact ⟨rfl, rfl, rfl⟩
    · rw [dmcFetched_of_last _ hlast hloop]
      exact ⟨rfl, rfl, rfl⟩
  · obtain ⟨hevents, hanswers, hreads⟩ := dmcStep_events_bus_of_not_due hdue
    rw [readDmc_of_not_due hdue]
    exact ⟨hevents, hanswers, hreads, rfl, rfl, rfl⟩

/-- Settles O37: without a tick the clock touches the timer alone; on one the output unit runs, and refills or not. -/
theorem dmcStepPlaysOneBitPerTick : Obligations.DmcStepPlaysOneBitPerTick := by
  intro s
  refine ⟨dmcStep s, exec_stepDmc s, ?_, fun hwait => ?_, fun htick => ⟨?_, fun b hb hbits => ?_, fun hkeep => ?_⟩⟩ <;>
    rw [dmcStep_dmc]
  · rw [dmcClock_frame, readDmc_timer]
  · rw [← readDmc_timer] at hwait
    rw [dmcClock_of_no_tick hwait]
    exact ⟨readDmc_output s, readDmc_shiftRegister s, readDmc_shiftRegisterBits s, readDmc_sampleBuffer s⟩
  all_goals
    rw [← readDmc_timer] at htick
    rw [dmcClock_of_tick htick]
    dsimp only
  · rw [outputUnit_output, dmcPlayBit_output_toNat, readDmc_shiftRegisterBits, readDmc_shiftRegister, readDmc_output]
  · rw [← readDmc_sampleBuffer] at hb
    rw [← readDmc_shiftRegisterBits] at hbits
    rw [outputUnit_of_refill hb hbits]
    exact ⟨rfl, rfl, rfl⟩
  · rw [← readDmc_sampleBuffer, ← readDmc_shiftRegisterBits] at hkeep
    rw [outputUnit_of_no_refill hkeep, dmcPlayBit_shiftRegister_toNat, dmcPlayBit_shiftRegisterBits_toNat,
      dmcPlayBit_sampleBuffer, readDmc_shiftRegisterBits, readDmc_shiftRegister, readDmc_sampleBuffer]
    exact ⟨rfl, rfl, rfl⟩

/-- Settles O38: neither the reader nor the timer's turn touches these fields (`readDmc_frame`, `dmcClock_frame`). -/
theorem dmcStepTouchesOnlyThePlayback : Obligations.DmcStepTouchesOnlyThePlayback := by
  intro s
  refine ⟨dmcStep s, exec_stepDmc s, dmcStep_frame s, ?_⟩
  rw [dmcStep_dmc, dmcClock_frame, readDmc_frame]
  exact ⟨rfl, rfl, rfl, rfl, rfl⟩

/-- Settles O39: the acknowledge writes the latch alone. -/
theorem acknowledgeClearsOnlyTheLatch : Obligations.AcknowledgeClearsOnlyTheLatch := exec_ackDmc

end Sys2Proof.Machine
end

section
/-! # The output sum and the IRQ port (spec 49_output_mix.md) -/

namespace Sys2Proof.Machine

section
variable (s : State)

theorem exec_irqDmc : exec .irqDmc s = .next (s.observe s.dmc.irq.toNat) := rfl

theorem mixSum_eq : mixSum s = (pulseOutput s.tables s.p1).toNat + (pulseOutput s.tables s.p2).toNat +
    (triangleOutput s.tri).toNat + (noiseOutput s.noi).toNat + s.dmc.output.toNat := rfl

/-- Four outputs of four bits and one of seven: 4 · 15 + 127. -/
theorem mixSum_le : mixSum s ≤ 187 := by
  have h1 := (pulseOutput s.tables s.p1).isLt
  have h2 := (pulseOutput s.tables s.p2).isLt
  have h3 := (triangleOutput s.tri).isLt
  have h4 := (noiseOutput s.noi).isLt
  have h5 := s.dmc.output.isLt
  rw [mixSum_eq]
  omega

end

/-! ### The obligations -/

/-- Settles O48: the five values are the outputs that `mixSum` adds up. -/
theorem mixIsTheSumOfTheOutputs : Obligations.MixIsTheSumOfTheOutputs := fun s =>
  ⟨_, _, _, _, _, exec_outP1 s, exec_outP2 s, exec_outTri s, exec_outNoi s, exec_outDmc s, exec_mix s, mixSum_le s⟩

/-- Settles O49: an observation appends one value, and that is all `State.observe` does. -/
theorem observationsArePure : Obligations.ObservationsArePure := fun _ s h => exec_observe h s

/-- Settles O47: the level of the latch as a number. -/
theorem irqPortReadsWithoutAcknowledging : Obligations.IrqPortReadsWithoutAcknowledging := by
  intro s
  rw [exec_irqDmc, Bool.toNat, Bool.cond_eq_ite]
  rfl

end Sys2Proof.Machine
end

section
/-! # Exceptions (spec 60_exceptions.md): every operation completes, the interrupt latch, the check at construction -/

namespace Sys2Proof.Machine

/-! ### The interrupt latch: R115 -/

/-- The next STEP DMC fetches the last byte of a sample that does not loop, with the interrupt enabled (spec R97). -/
abbrev irqDue (d : Dmc) : Prop :=
  d.sampleBuffer = none ∧ d.sampleLeft = 1 ∧ d.sampleLoop = false ∧ d.irqEnabled = true

theorem dmcFetched_irq {d : Dmc} (h : d.sampleBuffer = none) (b : Byte) :
    (dmcFetched d b).irq = true ↔ d.irq = true ∨ irqDue d := by
  by_cases hleft : d.sampleLeft = 1
  · cases hloop : d.sampleLoop with
    | true => simp [dmcFetched_of_loop b hleft hloop, irqDue, hloop]
    | false => simp [dmcFetched_of_last b hleft hloop, irqDue, h, hleft, hloop]
  · have hnot : ¬irqDue d := fun ⟨_, hone, _⟩ => hleft hone
    rw [dmcFetched_of_more b hleft, or_iff_left hnot]

theorem dmcStep_irq (s : State) : (dmcStep s).dmc.irq = true ↔ s.dmc.irq = true ∨ irqDue s.dmc := by
  obtain ⟨-, -, hirq⟩ := dmcStep_reader_fields s
  rw [hirq]
  by_cases hdue : fetchDue s.dmc
  · rw [readDmc_of_due hdue, dmcFetched_irq hdue.1]
  · have hnot : ¬irqDue s.dmc := fun ⟨hbuffer, hleft, _⟩ => hdue ⟨hbuffer, by rw [hleft]; decide⟩
    rw [readDmc_of_not_due hdue, or_iff_left hnot]

/-- Beside STEP, ACK and RST no word of the DMC reaches the latch. -/
theorem exec_irq_of_ne {i : Instr} {s t : State} (h : exec i s = .next t) (hstep : i ≠ .stepDmc) (hack : i ≠ .ackDmc)
    (hrst : i ≠ .rstDmc) : t.dmc.irq = s.dmc.irq := by
  by_cases hc : operationChannel i = some .dmc
  · cases i with
    | stepDmc => exact absurd rfl hstep
    | ackDmc => exact absurd rfl hack
    | rstDmc => exact absurd rfl hrst
    | wr4010 _ | wr4011 _ | wr4012 _ | wr4013 _ | qfDmc | hfDmc | outDmc | irqDmc => cases h; rfl
    | _ => cases hc
  · rw [((exec_effect h).dmc_events_bus_of_ne hc).1]

theorem irq_of_falls {i : Instr} {s t : State} (h : exec i s = .next t) (hs : s.dmc.irq = true) (ht : t.dmc.irq = false) :
    i = .ackDmc ∨ i = .rstDmc := by
  by_contra hne
  obtain ⟨hack, hrst⟩ := not_or.1 hne
  by_cases hstep : i = .stepDmc
  · subst hstep
    cases (exec_stepDmc s).symm.trans h
    exact Bool.eq_false_iff.1 ht ((dmcStep_irq s).2 (.inl hs))
  · rw [exec_irq_of_ne h hstep hack hrst, hs] at ht
    cases ht

theorem irq_of_rises {i : Instr} {s t : State} (h : exec i s = .next t) (hs : s.dmc.irq = false) (ht : t.dmc.irq = true) :
    i = .stepDmc ∧ irqDue s.dmc := by
  by_cases hstep : i = .stepDmc
  · subst hstep
    cases (exec_stepDmc s).symm.trans h
    exact ⟨rfl, ((dmcStep_irq s).1 ht).resolve_left (Bool.eq_false_iff.1 hs)⟩
  · have hack : i ≠ .ackDmc := by rintro rfl; cases h; cases ht
    have hrst : i ≠ .rstDmc := by rintro rfl; cases h; cases ht
    rw [exec_irq_of_ne h hstep hack hrst, hs] at ht
    cases ht

/-! ### Construction: R113 -/

theorem construct_of_le {tables : Tables} {a b : Nat} (h : a ≤ 1 ∧ b ≤ 1) :
    construct tables a b = .next (State.constructed tables (a == 1) (b == 1)) := if_pos h

theorem construct_of_not_le {tables : Tables} {a b : Nat} (h : ¬(a ≤ 1 ∧ b ≤ 1)) :
    construct tables a b = .refused .badNegateMode := if_neg h

/-! ### The obligations -/

/-- Settles O52: every arm of `exec` answers a next state (`exec_next`), and no change of a channel leaves R14 (`exec_keeps_inv`). -/
theorem everyOperationCompletesAndKeepsTheInvariant : Obligations.EveryOperationCompletesAndKeepsTheInvariant := by
  intro i s hs
  obtain ⟨t, ht⟩ := exec_next i s
  exact ⟨t, ht, exec_keeps_inv ht hs⟩

/-- Settles O40: STEP, ACK and RST of the DMC alone reach the latch; the step only raises it, the other two only lower it. -/
theorem irqLatchChangesOnlyWhereTheSpecSays : Obligations.IrqLatchChangesOnlyWhereTheSpecSays := fun _ _ _ h =>
  ⟨irq_of_falls h, irq_of_rises h⟩

/-- Settles O8: the two clauses are the two branches of `construct`, whose bounds are the values 0 and 1. -/
theorem constructionChecksNegateMode : Obligations.ConstructionChecksNegateMode := by
  intro tables a b
  rw [← Nat.le_one_iff_eq_zero_or_eq_one, ← Nat.le_one_iff_eq_zero_or_eq_one]
  exact ⟨construct_of_le, construct_of_not_le⟩

end Sys2Proof.Machine
end

section
/-! # Reset and hazards (spec 70_reset_and_hazards.md): the reset words, the order of two operations, the length counter's run -/

namespace Sys2Proof.Machine

/-! ### The reset column and the reset words: R13, R120 -/

section
variable (s : State)

theorem exec_rstP1 : exec .rstP1 s = .next { s with p1 := Pulse.initial s.p1.negateMode } := rfl

theorem exec_rstP2 : exec .rstP2 s = .next { s with p2 := Pulse.initial s.p2.negateMode } := rfl

theorem exec_rstTri : exec .rstTri s = .next { s with tri := Triangle.initial } := rfl

theorem exec_rstNoi : exec .rstNoi s = .next { s with noi := Noise.initial } := rfl

theorem exec_rstDmc : exec .rstDmc s = .next { s with dmc := Dmc.initial } := rfl

/-- The state after RST ALL. -/
def State.channelsReset : State :=
  { s with
    p1 := Pulse.initial s.p1.negateMode
    p2 := Pulse.initial s.p2.negateMode
    tri := Triangle.initial
    noi := Noise.initial
    dmc := Dmc.initial }

theorem applyAll_resets (rest : List Instr) :
    applyAll ([.rstP1, .rstP2, .rstTri, .rstNoi, .rstDmc] ++ rest) s = applyAll rest s.channelsReset := by
  simp only [List.cons_append, List.nil_append, applyAll, exec_rstP1, exec_rstP2, exec_rstTri, exec_rstNoi, exec_rstDmc]
  rfl

/-- A length counter of 0 mutes P1, P2, TRI and NOI; the DMC's level is 0 itself. -/
theorem mixSum_channelsReset : mixSum s.channelsReset = 0 := by
  have hpulse (b : Bool) : (pulseOutput s.tables (Pulse.initial b)).toNat = 0 :=
    (pulseOutput_toNat _ _).trans (if_pos (.inl rfl))
  have hnoise : (noiseOutput Noise.initial).toNat = 0 := (noiseOutput_toNat _).trans (if_pos (.inr rfl))
  have htriangle : (triangleOutput Triangle.initial).toNat = 0 := (triangleOutput_toNat _).trans (if_pos (.inl rfl))
  rw [mixSum_eq]
  simp only [State.channelsReset, hpulse, hnoise, htriangle]
  rfl

end

/-! ### The two writes of a period: R127 -/

section
variable (t : Timer 11) (lo hi : Byte)

theorem timerHighWrite_timerLowWrite :
    (timerHighWrite (timerLowWrite t lo) (timerHighField hi)).timerPeriod = joinedPeriod (hi.toNat % 8) lo.toNat := by
  have hp := t.timerPeriod.isLt
  have hlo := lo.isLt
  have hlow : (joinedPeriod (t.timerPeriod.toNat / 256) lo.toNat).toNat % 256 = lo.toNat := by
    rw [joinedPeriod_toNat (by omega) hlo]
    omega
  simp only [timerHighWrite_eq, timerLowWrite_eq, timerHighField_toNat, hlow]

theorem timerLowWrite_timerHighWrite :
    (timerLowWrite (timerHighWrite t (timerHighField hi)) lo).timerPeriod = joinedPeriod (hi.toNat % 8) lo.toNat := by
  have hhigh : (joinedPeriod (hi.toNat % 8) (t.timerPeriod.toNat % 256)).toNat / 256 = hi.toNat % 8 := by
    rw [joinedPeriod_toNat (by omega) (by omega)]
    omega
  simp only [timerLowWrite_eq, timerHighWrite_eq, timerHighField_toNat, hhigh]

end

/-! ### The length counter's run: R131 -/

theorem halvedLength_iterate_toNat (n : Nat) (l : LengthCounter) :
    (halvedLength^[n] l).lengthCounter.toNat = l.lengthCounter.toNat - if l.lengthCounterHalt then 0 else n := by
  induction n generalizing l with
  | zero => simp
  | succ n ih =>
    rw [Function.iterate_succ_apply, ih, halvedLength_toNat, halvedLength_halt]
    split <;> omega

/-- If the operation halves the counter that `get` reads in what `put` puts into the state, its repetition counts it down. -/
theorem applyTimes_half {α : Type} {i : Instr} {put : α → State} {f : α → α} {get : State → LengthCounter}
    (hexec : ∀ a, exec i (put a) = .next (put (f a))) (hget : ∀ a, get (put (f a)) = halvedLength (get (put a)))
    (n : Nat) (a : α) :
    ∃ t, applyTimes n i (put a) = .next t ∧ (get t).lengthCounter.toNat =
      (get (put a)).lengthCounter.toNat - if (get (put a)).lengthCounterHalt then 0 else n := by
  refine ⟨_, applyTimes_iterate hexec n a, ?_⟩
  have hrun : get (put (f^[n] a)) = halvedLength^[n] (get (put a)) :=
    Function.Semiconj.iterate_right (f := get ∘ put) hget n a
  rw [hrun, halvedLength_iterate_toNat]

/-! ### The obligations -/

/-- Settles O9: the reset column is what the channels are constructed with. -/
theorem resetStateIsTheResetColumn : Obligations.ResetStateIsTheResetColumn := ⟨rfl, rfl, rfl, rfl, rfl⟩

/-- Settles O10: R14 evaluated on the reset state and the reference tables. -/
theorem resetStateMeetsTheInvariant : Obligations.ResetStateMeetsTheInvariant := by
  unfold Obligations.ResetStateMeetsTheInvariant
  decide

/-- Settles O11: a reset word constructs its channel anew, the pulses with their own negateMode. -/
theorem resetWordsRestoreTheirChannel : Obligations.ResetWordsRestoreTheirChannel := fun s =>
  ⟨exec_rstP1 s, exec_rstP2 s, exec_rstTri s, exec_rstNoi s, exec_rstDmc s⟩

/-- Settles O25: the meaning of each of the four is the state itself. -/
theorem operationsWithoutEffectChangeNothing : Obligations.OperationsWithoutEffectChangeNothing := fun _ _ =>
  ⟨rfl, rfl, rfl, rfl⟩

/-- Settles O12: after the five words the channels are as constructed, and then every output and the latch are 0. -/
theorem silentAfterResettingEveryChannel : Obligations.SilentAfterResettingEveryChannel := by
  intro s
  refine ⟨(s.channelsReset.observe 0).observe 0, ?_, ?_, rfl⟩
  · refine (applyAll_resets s [.mix, .irqDmc]).trans (applyAll_pair ?_ (exec_irqDmc _))
    rw [exec_mix, mixSum_channelsReset]
  · exact List.append_assoc _ _ _

/-- Settles O58: the half frames iterate `halvedLength` on the counter of each channel, whatever the sweep does on a pulse. -/
theorem lengthCounterSilencesAfterItsCount : Obligations.LengthCounterSilencesAfterItsCount := fun s n =>
  ⟨applyTimes_half (put := fun p => { s with p1 := p }) (get := fun t => t.p1.length)
      (fun _ => exec_hfP1 _) halvedPulse_length n s.p1,
    applyTimes_half (put := fun p => { s with p2 := p }) (get := fun t => t.p2.length)
      (fun _ => exec_hfP2 _) halvedPulse_length n s.p2,
    applyTimes_half (put := fun l => { s with tri.length := l }) (get := fun t => t.tri.length)
      (fun _ => exec_hfTri _) (fun _ => rfl) n s.tri.length,
    applyTimes_half (put := fun l => { s with noi.length := l }) (get := fun t => t.noi.length)
      (fun _ => exec_hfNoi _) (fun _ => rfl) n s.noi.length⟩

/-- Settles O59: each write replaces its own bits of the period and keeps the other's, in both orders. -/
theorem periodWritesGiveTheSamePeriodInEitherOrder : Obligations.PeriodWritesGiveTheSamePeriodInEitherOrder := fun lo hi s =>
  ⟨⟨_, _, applyAll_pair (exec_wr4002 lo s) (exec_wr4003 hi _), applyAll_pair (exec_wr4003 hi s) (exec_wr4002 lo _),
      timerHighWrite_timerLowWrite _ lo hi, timerLowWrite_timerHighWrite _ lo hi⟩,
    ⟨_, _, applyAll_pair (exec_wr4006 lo s) (exec_wr4007 hi _), applyAll_pair (exec_wr4007 hi s) (exec_wr4006 lo _),
      timerHighWrite_timerLowWrite _ lo hi, timerLowWrite_timerHighWrite _ lo hi⟩,
    ⟨_, _, applyAll_pair (exec_wr400A lo s) (exec_wr400B hi _), applyAll_pair (exec_wr400B hi s) (exec_wr400A lo _),
      timerHighWrite_timerLowWrite _ lo hi, timerLowWrite_timerHighWrite _ lo hi⟩⟩

/-- Settles O60: two hooks of a channel write different units of it, and neither reads what the other writes. -/
theorem hooksOfOneChannelCommute : Obligations.HooksOfOneChannelCommute := fun s =>
  ⟨⟨_, applyAll_pair (exec_qfP1 s) (exec_hfP1 _), applyAll_pair (exec_hfP1 s) (exec_qfP1 _)⟩,
    ⟨_, applyAll_pair (exec_qfP2 s) (exec_hfP2 _), applyAll_pair (exec_hfP2 s) (exec_qfP2 _)⟩,
    ⟨_, applyAll_pair (exec_qfTri s) (exec_hfTri _), applyAll_pair (exec_hfTri s) (exec_qfTri _)⟩,
    ⟨_, applyAll_pair (exec_qfNoi s) (exec_hfNoi _), applyAll_pair (exec_hfNoi s) (exec_qfNoi _)⟩,
    ⟨s, rfl, rfl⟩,
    ⟨_, applyAll_pair (exec_stepP1 s) (exec_qfP1 _), applyAll_pair (exec_qfP1 s) (exec_stepP1 _)⟩,
    ⟨_, applyAll_pair (exec_stepP2 s) (exec_qfP2 _), applyAll_pair (exec_qfP2 s) (exec_stepP2 _)⟩,
    ⟨_, applyAll_pair (exec_stepNoi s) (exec_qfNoi _), applyAll_pair (exec_qfNoi s) (exec_stepNoi _)⟩,
    ⟨_, applyAll_pair (exec_stepNoi s) (exec_hfNoi _), applyAll_pair (exec_hfNoi s) (exec_stepNoi _)⟩,
    ⟨dmcStep s, rfl, rfl⟩, ⟨dmcStep s, rfl, rfl⟩⟩

end Sys2Proof.Machine
end
